-- ==== Sys2Proof/Word.lean ====
section
/-! DEFINITION. The bit-vector types of the Pramwel 4120 model: what the manual treats as bits. -/

namespace Sys2Proof

/-- An eight-bit value inside the part: the first eight data bits of a character (R1). -/
abbrev Byte := BitVec 8

/-- A two-character number: a check, a counter, a generation (R5, R45, R186). -/
abbrev Word := BitVec 16

/-- The six-bit request number of a Function character (R4). -/
abbrev FunctionCode := BitVec 6

end Sys2Proof
end

