-- ==== Sys2Proof/Syntax.lean ====
section
/-! DEFINITION. The commands of the block: one constructor of `Instr` per row of
spec/opcode_table.json, and the types of their operands. The table gives the rows no bits; the
operands are what the rules leave to the world outside the part (which line, which byte, which
tag's timer, what the memory cells read back as, the level of a pin the event samples): see
notes/assumptions/6.md and notes/assumptions/8.md. -/

namespace Sys2Proof

/-- The two serial lines: UP_RX with UR, DN_RX with DR. -/
inductive Line where
  | upline
  | downline
deriving DecidableEq, Repr

/-- A fall of a receive pin that is still low at the middle of the start bit (R2): the line it comes on,
and whether the pin had been high for at least one bit time before it. -/
structure Fall where
  line : Line
  rested : Bool
deriving DecidableEq, Repr

/-- The two nonvolatile banks (R24). -/
inductive BankId where
  | bankA
  | bankB
deriving DecidableEq, Repr

/-- A downline tag, 0 to 31 (R69). -/
abbrev Tag := Fin 32

/-- The three fields of a VALID pointer cell (R152). -/
structure PointerRecord where
  /-- The bank the record names. -/
  bank : BankId
  /-- The generation of the commit that wrote it. -/
  generation : Word
  /-- The bank check of the named bank as that commit computed it. -/
  check : Word
deriving DecidableEq, Repr

/-- The commands of spec/opcode_table.json: the part's steps, each whole and indivisible. -/
inductive Instr where
  /-- POWER_ON (R161), with the levels of the RATE1..0 and MADR1..0 straps. -/
  | powerOn (rate madr : BitVec 2)
  /-- POWER_FAIL (R149). -/
  | powerFail
  /-- RESET_N_FALL (R161). -/
  | resetNFall
  /-- RESET_N_RELEASE (R161), with the levels of the RATE1..0 and MADR1..0 straps. -/
  | resetNRelease (rate madr : BitVec 2)
  /-- START_UP_SCAN (R162): the end of the scan. -/
  | startUpScan
  /-- POINTER_SELECTION (R163): the end of a candidate's check computation. -/
  | pointerSelection
  /-- CHARACTER (R2): a complete character, with the level KEYSW has in this event (R134, R151). -/
  | character (fall : Fall) (byte : Byte) (lead : Bool) (keysw : Bool)
  /-- CHARACTER_ERROR (R10): a low stop bit. -/
  | characterError (fall : Fall)
  /-- GAP_TIMER_EXPIRY (R10). -/
  | gapTimerExpiry (line : Line)
  /-- UT_TAKE (R108). -/
  | utTake
  /-- UPLINE_FRAME_SENT (R19). -/
  | uplineFrameSent
  /-- DT_TAKE (R78). -/
  | dtTake
  /-- DOWNLINE_FRAME_SENT (R79). -/
  | downlineFrameSent
  /-- REPLY_TIMER_EXPIRY (R81) of one tag's record. -/
  | replyTimerExpiry (tag : Tag)
  /-- QUARANTINE_EXPIRY (R71) of one tag. -/
  | quarantineExpiry (tag : Tag)
  /-- QUIET_PERIOD_EXPIRY (R74). -/
  | quietPeriodExpiry
  /-- ELEMENT_WRITE_END (R125), with the image read back from the cells. -/
  | elementWriteEnd (readBack : List Byte)
  /-- SEGMENT_ERASE_END (R126). -/
  | segmentEraseEnd
  /-- HEADER_ERASE_END (R126). -/
  | headerEraseEnd
  /-- LOCK_WRITE_END (R142). -/
  | lockWriteEnd
  /-- CHECK_BANK_COMPLETE (R144). -/
  | checkBankComplete
  /-- COMMIT_CHECK_STAGE_END (R156). -/
  | commitCheckStageEnd
  /-- POINTER_WRITE_START (R157). -/
  | pointerWriteStart
  /-- POINTER_VERIFY (R157), with the record read back from the cell. -/
  | pointerVerify (readBack : PointerRecord)
  /-- START_BIT (R6): the pin falls and is still low at the middle of the bit (R2). -/
  | startBit (fall : Fall)
deriving DecidableEq, Repr

end Sys2Proof
end

