-- ==== Sys2Proof/Decode.lean ====
section
/-! DEFINITION. Decoding. The block fetches nothing: its commands are events on its lines, pins,
timers and cells, and spec/opcode_table.json gives none of its rows any bits. So no word spells a
command. (What the part decodes from characters, frames and management payloads, is its own
behaviour and stands in Machine/Operands.lean, Machine/Receive.lean and Machine/Management.lean.) -/

namespace Sys2Proof

/-- The command a word spells by the bits of spec/opcode_table.json: none, for every word, because no
row of the table has bits. -/
def decodeTableWord (_nbits _w : Nat) : Option Instr := none

end Sys2Proof
end

