-- ==== Sys2Proof/Config.lean ====
section
/-! DEFINITION. What the manual leaves open (free values, with no body, so that nothing can be proved
of them) and the numbers it fixes. -/

namespace Sys2Proof.Config

/-- FREE VALUE (notes/assumptions/7.md). Whether an erase that is running has by now cleared a slot
of its segment: the first argument is the number of the draw, the second the slot. R126: the cells
are cleared in an order the controller cannot foresee. -/
opaque slotCleared : Nat → Nat → Bool

/-- FREE VALUE (notes/assumptions/7.md). Whether a header erase that is running has by now cleared the
header (R126), at the draw of this number. -/
opaque headerCleared : Nat → Bool

/-- FREE VALUE (notes/assumptions/9.md). How many bit times, beyond the first, UT sends of a frame that a
restart abandons as it begins, at the draw of this number: "a few" (R23). -/
opaque cutBits : Nat → Nat

/-- The places of the Upline Transmit Queue (R104). -/
def queuePlaces : Nat := 16

/-- The most UNTRACKED entries the Downline Transmit Queue holds (R65). -/
def untrackedPlaces : Nat := 16

/-- The longest payload of a frame, in characters (R4). -/
def maxPayload : Nat := 32

/-- The quiet period with no bank active: 50 ms, in units of 10 ms (R73). -/
def quietWithoutTable : Byte := 5#8

/-- The address of the part while no table is in service, before the MADR straps are added (R44). -/
def strappedBase : Byte := 0xF8#8

/-- The character rate that the RATE1..0 straps select, in bits per second (R3). -/
def bitsPerSecond (rate : BitVec 2) : Nat :=
  if rate = 0#2 then 9600 else if rate = 1#2 then 19200 else if rate = 2#2 then 38400 else 76800

/-- The bit times of one character (R1). -/
def characterBits : Nat := 11

/-- The gap limit, in character times (R6, R10). -/
def gapLimitCharacters : Nat := 3

end Sys2Proof.Config
end

