-- ==== Sys2Proof/Machine/State.lean ====
section
/-! DEFINITION. The state of the part, block by block, and its value right after reset. Every field is
plain data. -/

namespace Sys2Proof.Machine

/-! ### Frames -/

/-- A frame record: what a received frame hands on (R11) but its check, and what a transmitter is
given to send (R18). -/
structure Frame where
  /-- The Address byte. -/
  addr : Byte
  /-- The direction bit: set on a reply. -/
  dir : Bool
  /-- The exception bit. -/
  exc : Bool
  /-- The function code. -/
  fn : FunctionCode
  /-- The Sequence byte: the tag. -/
  seq : Byte
  /-- The payload, 0 to 32 bytes. -/
  payload : List Byte
deriving DecidableEq, Repr

/-- A good frame as a receiver hands it on: its record and the received check value (R11). -/
structure Received where
  /-- The frame. -/
  frame : Frame
  /-- The check value that came with it. -/
  check : Word
deriving DecidableEq, Repr

/-! ### The receivers UR and DR -/

/-- The receiver state (R6). The partial frame, its expected length and the gap timer are present in
COLLECT alone, so they are COLLECT's data. -/
inductive Receiver where
  /-- Looking for the start of a frame. -/
  | hunt
  /-- Holding a partial frame: its bytes in arrival order, the expected length once the Length
  character has come, and whether the gap timer runs (a recognised start bit stops it). -/
  | collect (bytes : List Byte) (expected : Option Nat) (gapTimer : Bool)
  /-- Waiting for the next lead character after giving up on a frame. -/
  | discard
deriving DecidableEq, Repr

/-! ### The transmitters UT and DT -/

/-- The frame in flight of a transmitter that is SENDING (R18): the copy it took, and its position in
that frame, the number of characters sent. -/
structure InFlight where
  /-- The frame being sent. -/
  frame : Frame
  /-- How many of its characters have been sent. -/
  position : Nat
deriving DecidableEq, Repr

/-- A frame that a restart abandoned a few bit times after UT began it (R23): what UP_TX carries of it. UT
itself is IDLE (R22). -/
structure CutFrame where
  /-- The abandoned frame. -/
  frame : Frame
  /-- How many bit times of its lead character UT sent. -/
  bits : Nat
deriving DecidableEq, Repr

/-- What DT's current transmission is (R18): a tracked frame's tag, or untracked. -/
inductive Current where
  | tracked (tag : Tag)
  | untracked
deriving DecidableEq, Repr

/-- DT's frame in flight together with its current transmission (R18). -/
structure DownFlight where
  /-- The frame in flight. -/
  flight : InFlight
  /-- The current transmission. -/
  current : Current
deriving DecidableEq, Repr

/-! ### The Transaction Tracker -/

/-- Where a delivered reply came from, as far as the release of the tag depends on it (R75, R92). -/
inductive Origin where
  /-- A station reply accepted while the record was in AWAIT_REPLY or WAIT_LINE. -/
  | station
  /-- A station reply accepted while the record was in SENDING. -/
  | stationInSending
  /-- The part's NO_REPLY exception. -/
  | exhausted
deriving DecidableEq, Repr

/-- The record state (R76). The reply timer runs exactly in AWAIT_REPLY, for the record's reply
timeout, and the held reply with the note on it is present exactly in HELD (R75). -/
inductive RecordState where
  | waitLine
  | sending
  | awaitReply
  | held (reply : Frame) (origin : Origin)
deriving DecidableEq, Repr

/-- The record of a BUSY tag (R75). Times are in units of 10 ms. -/
structure Record where
  upAddr : Byte
  upFn : FunctionCode
  upTag : Byte
  downAddr : Byte
  downFn : FunctionCode
  downPayload : List Byte
  strip : Nat
  replyTimeout : Byte
  retryLimit : Nat
  retransmissions : Nat
  quarantine : Byte
  generation : Word
  slot : Nat
  state : RecordState
deriving DecidableEq, Repr

/-- The state of a downline tag (R69). A BUSY tag has its record, a RELEASING tag the captured
quarantine time, a tag in per-tag QUARANTINE that time with its timer running for it, and a tag of
the quiet period neither. Times are in units of 10 ms. -/
inductive TagState where
  | free
  | busy (record : Record)
  | releasing (captured : Byte)
  | quarantine (captured : Byte)
  | quiet
deriving DecidableEq, Repr

/-- An entry of the Downline Transmit Queue (R77). -/
inductive DqEntry where
  | tracked (tag : Tag)
  | untracked (frame : Frame)
deriving DecidableEq, Repr

/-- What the Transaction Tracker owns. -/
structure Tracker where
  /-- The state of each of the 32 downline tags (R69), the records among them (R75). -/
  tags : Vector TagState 32
  /-- The free list, head first (R70). -/
  freeList : List Tag
  /-- The Downline Transmit Queue, oldest at the head (R77). -/
  dq : List DqEntry
  /-- The quiet-period timer, with the length it runs for in units of 10 ms (R73). -/
  quietTimer : Option Byte
deriving DecidableEq, Repr

/-! ### The Return Path -/

/-- What the Return Path owns. -/
structure ReturnPath where
  /-- The Upline Transmit Queue, oldest at the head (R104). -/
  uq : List Frame
  /-- The hold list, oldest at the head (R111). -/
  holdList : List Tag
deriving DecidableEq, Repr

/-! ### The Management Engine -/

/-- The ME state (R166). RESTART_PENDING holds the reply it waits to see sent, until that is reported
sent; where UT's taking of its next head comes before the restart, the restart is due from the report until
that taking (R23). -/
inductive EngineState where
  | ready
  | restartPending (reply : Frame)
  | restartDue
deriving DecidableEq, Repr

/-- The replay record (R166). -/
structure Replay where
  /-- Tag of the last management request executed. -/
  tag : Byte
  /-- Its function code. -/
  fn : FunctionCode
  /-- Its received check. -/
  check : Word
  /-- The complete reply made for it. -/
  reply : Frame
deriving DecidableEq, Repr

/-- What the Management Engine owns. -/
structure Engine where
  /-- READY or RESTART_PENDING. -/
  state : EngineState
  /-- The replay record, absent or present. -/
  replay : Option Replay
  /-- The management holder. -/
  holder : Option Frame
  /-- The sixteen counters by number (R186, R187). -/
  counters : Vector Word 16
deriving DecidableEq, Repr

/-! ### The nonvolatile memory of the Table Store -/

/-- An element condition with the image a VALID element holds (R25). -/
inductive Element (α : Type) where
  | blank
  | programming
  | valid (image : α)
  | torn
deriving DecidableEq, Repr

/-- The parameters of FORWARD, positions 3 to 12 of an entry image (R31). -/
structure ForwardParams where
  outAddr : Byte
  outFn : Byte
  retryLimit : Byte
  timeout : Byte
  strip : Byte
  /-- The prefix characters, up to the prefix length. -/
  front : List Byte
deriving DecidableEq, Repr

/-- The action of an entry with its parameters (R29, R31 to R35). -/
inductive Action where
  | forward (params : ForwardParams)
  | answer (characters : List Byte)
  | reject (reason : Byte)
  | drop
deriving DecidableEq, Repr

/-- An entry: the fields of an entry image, kept by name (R29). -/
structure Entry where
  keyAddr : Byte
  keyFn : Byte
  action : Action
deriving DecidableEq, Repr

/-- The miss action of a header (R36). -/
inductive MissAction where
  | drop
  | reject
deriving DecidableEq, Repr

/-- The fields of a header image (R36). Times are in units of 10 ms. -/
structure Header where
  mgmtAddr : Byte
  missAction : MissAction
  defaultTimeout : Byte
  quarantine : Byte
  label : Vector Byte 4
deriving DecidableEq, Repr

/-- The condition of a segment (R26). -/
inductive SegmentCondition where
  | normal
  | erasing
  | eraseIncomplete
deriving DecidableEq, Repr

/-- A slot number, 0 to 511 (R24). -/
abbrev SlotNo := Fin 512

/-- A segment number, 0 to 7 (R24). -/
abbrev SegmentNo := Fin 8

/-- A page number, 0 to 63 (R24). -/
abbrev PageNo := Fin 64

/-- A slot: an element whose image is an entry. -/
abbrev Slot := Element Entry

/-- The 512 slots of a bank, in one canonical form: the slots that are not BLANK, by strictly rising
slot number. A slot that is not listed is BLANK, which is what an erased slot is (R25). -/
abbrev SlotMap := List (SlotNo × Slot)

/-- One bank (R24). -/
structure Bank where
  header : Element Header
  slots : SlotMap
  segments : Vector SegmentCondition 8
  locks : Vector Bool 8
deriving DecidableEq, Repr

/-- A bank that was never written: every element BLANK, every segment NORMAL and unlocked. -/
def Bank.blank : Bank where
  header := .blank
  slots := []
  segments := Vector.replicate 8 .normal
  locks := Vector.replicate 8 false

/-- A pointer cell (R152). The fields of a BLANK or WRITING cell are not read by the part. -/
inductive PointerCell where
  | blank
  | writing
  | valid (record : PointerRecord)
deriving DecidableEq, Repr

/-- The number of a pointer cell (R152). -/
inductive CellId where
  | zero
  | one
deriving DecidableEq, Repr

/-- The nonvolatile contents of the Table Store (R118). -/
structure Nonvolatile where
  bankA : Bank
  bankB : Bank
  cell0 : PointerCell
  cell1 : PointerCell
deriving DecidableEq, Repr

/-! ### The volatile state of the Table Store -/

/-- What RUNNING holds (R37, R42, R45, R153): the active bank, the cell of the record in force, the
generation and the header in force. -/
structure Service where
  active : BankId
  cell : CellId
  generation : Word
  header : Header
deriving DecidableEq, Repr

/-- The part mode with the designation of the banks (R42, R43). -/
inductive Mode where
  | starting
  | running (service : Service)
  | unconfigured (standby : BankId)
deriving DecidableEq, Repr

/-- The stage of start-up (R161 to R164). -/
inductive StartUp where
  /-- No stage of start-up is in progress. -/
  | idle
  /-- The start-up scan runs. -/
  | scanning
  /-- Pointer selection computes the check of the bank that this cell's record names, and these
  cells are still to be tried. -/
  | verifying (cell : CellId) (untried : List CellId)
deriving DecidableEq, Repr

/-- The stage of an ERASE BANK (R137). -/
inductive EraseStage where
  | header
  | segment (number : SegmentNo)
deriving DecidableEq, Repr

/-- The stage of a COMMIT after its readiness test (R156, R157): computing the check, the target cell
erased, the record being written into it. -/
inductive CommitStage where
  | checking
  | erased (check : Word)
  | writing (record : PointerRecord)
deriving DecidableEq, Repr

/-- The store operation in flight with its arguments and its stage (R119, R120). -/
inductive StoreOp where
  /-- PROGRAM STAGE: this entry is being written into this slot of the bank. -/
  | programStage (bank : BankId) (slot : SlotNo) (entry : Entry)
  /-- PROGRAM HEADER. -/
  | programHeader (bank : BankId) (header : Header)
  /-- ERASE SEGMENT. -/
  | eraseSegment (bank : BankId) (segment : SegmentNo) (override : Bool)
  /-- ERASE BANK. -/
  | eraseBank (bank : BankId) (override : Bool) (stage : EraseStage)
  /-- COPY SEGMENT: this entry is being written into this slot of the bank. -/
  | copySegment (bank : BankId) (segment : SegmentNo) (slot : SlotNo) (entry : Entry)
  /-- LOCK SEGMENT. -/
  | lockSegment (bank : BankId) (segment : SegmentNo)
  /-- CHECK BANK. -/
  | checkBank (bank : BankId)
  /-- COMMIT. -/
  | commit (bank : BankId) (expected : Word) (stage : CommitStage)
deriving DecidableEq, Repr

/-- The last operation (R119). -/
inductive LastOp where
  | none
  | programStage
  | programHeader
  | eraseSegment
  | eraseBank
  | copySegment
  | lockSegment
  | checkBank
  | commit
  | startUp
deriving DecidableEq, Repr

/-- The last result (R119). -/
inductive LastResult where
  | ok
  | notBlank
  | verifyFail
  | interrupted
  | checkMismatch
  | bankNotReady
  | activeCheckFail
deriving DecidableEq, Repr

/-- The staging buffer (R127): empty, or a staged page with, for each of its eight slots in order, the
entry staged for it if there is one. -/
inductive Staging where
  | empty
  | page (number : PageNo) (entries : Vector (Option Entry) 8)
deriving DecidableEq, Repr

/-- The volatile state of the Table Store (R42, R119). -/
structure Store where
  mode : Mode
  startUp : StartUp
  /-- The operation in flight; the store state is IDLE when there is none. -/
  op : Option StoreOp
  opNumber : Byte
  lastOp : LastOp
  lastResult : LastResult
  faultLatch : Bool
  lastCheck : Option Word
  staging : Staging
deriving DecidableEq, Repr

/-! ### The part -/

/-- The straps as the part sampled them when it left reset (R3, R44). -/
structure Straps where
  rate : BitVec 2
  madr : BitVec 2
deriving DecidableEq, Repr

/-- The levels of the pins that are neither a line nor sampled straps: power at VCC, RESET_N, KEYSW
(`true` is high), and whether ALERT_N is asserted. -/
structure Pins where
  powered : Bool
  resetN : Bool
  keysw : Bool
  alert : Bool
deriving DecidableEq, Repr

/-- The state of the part. -/
structure State where
  pins : Pins
  straps : Straps
  /-- Upline Receiver. -/
  ur : Receiver
  /-- Downline Receiver. -/
  dr : Receiver
  /-- UR looks for no start bit until UP_RX has been high for one bit time: a character error came
  (R2). -/
  urAwaitsHigh : Bool
  /-- The same of DR and DN_RX (R2). -/
  drAwaitsHigh : Bool
  /-- Upline Transmitter: IDLE, or SENDING its frame in flight. -/
  ut : Option InFlight
  /-- The start of a frame that a restart cut short, while it is on UP_TX (R23). -/
  utCut : Option CutFrame
  /-- Downline Transmitter: IDLE, or SENDING its frame in flight. -/
  dt : Option DownFlight
  /-- Transaction Tracker. -/
  tt : Tracker
  /-- Return Path. -/
  rt : ReturnPath
  /-- Management Engine. -/
  me : Engine
  /-- Table Store, nonvolatile. -/
  nv : Nonvolatile
  /-- Table Store, volatile. -/
  ts : Store
  /-- The MODEL's own: how many free values have been drawn (notes/assumptions/7.md). -/
  draws : Nat
  /-- The MODEL's own: the commands that wait, the first to run at the head. -/
  pending : List Instr
deriving DecidableEq, Repr

/-- Why a command stops the run. Each says that the event offered cannot occur in this state: the
spec gives it no effect there (notes/assumptions/10.md). All are safe: the model stops where the part
is never asked. -/
inductive Fault where
  /-- Raised by POWER_ON while the part is powered. Safe. -/
  | alreadyPowered
  /-- Raised by POWER_FAIL while the part is not powered. Safe. -/
  | notPowered
  /-- Raised by RESET_N_FALL while RESET_N is low. Safe. -/
  | resetAlreadyLow
  /-- Raised by RESET_N_RELEASE while RESET_N is high. Safe. -/
  | resetAlreadyHigh
  /-- Raised by START_UP_SCAN and POINTER_SELECTION when that stage of start-up is not in progress
  (R162, R163). Safe. -/
  | startUpStageNotInProgress
  /-- Raised by the four timer expiries when the timer does not run (R6, R71, R73, R80). Safe. -/
  | timerNotRunning
  /-- Raised by UT_TAKE and DT_TAKE while the transmitter is SENDING (R19, R20). Safe. -/
  | transmitterSending
  /-- Raised by UPLINE_FRAME_SENT and DOWNLINE_FRAME_SENT while the transmitter is IDLE (R18). Safe. -/
  | transmitterIdle
  /-- Raised by DT_TAKE and UT_TAKE when a queue or the hold list names a tag that does not have the
  record R77 and R111 give it. No run from reset reaches such a state. Safe. -/
  | recordMissing
  /-- Raised by the stage-end events of the Table Store when no operation is in that stage (R120).
  Safe. -/
  | storeStageNotInProgress
  /-- Raised by POINTER_VERIFY when the bank to be put in service has no VALID header, which R155 has
  tested at intake. No run from reset reaches such a state. Safe. -/
  | headerNotValid
deriving DecidableEq, Repr

/-- Why a command is refused. -/
inductive Refusal where
  /-- Raised by `exec` for a command that has no meaning yet. No arm of `exec` raises it. Safe. -/
  | notModelled (mnemonic : String)
deriving DecidableEq, Repr

/-! ### Power-on values and reset -/

/-- The tracker at power-on and while RESET_N is low (R96): every tag QUARANTINE with no timer. -/
def Tracker.powerOn : Tracker where
  tags := Vector.replicate 32 .quiet
  freeList := []
  dq := []
  quietTimer := none

/-- The Return Path at power-on (R114). -/
def ReturnPath.empty : ReturnPath where
  uq := []
  holdList := []

/-- The Management Engine at power-on and after a RESTART (R166, R185). -/
def Engine.powerOn : Engine where
  state := .ready
  replay := none
  holder := none
  counters := Vector.replicate 16 0#16

/-- The store status at power-on (R119). The mode is STARTING (R42), which is also how the model
writes the mode of a part held in reset. -/
def Store.powerOn : Store where
  mode := .starting
  startUp := .idle
  op := none
  opNumber := 0#8
  lastOp := .none
  lastResult := .ok
  faultLatch := false
  lastCheck := none
  staging := .empty

/-- The nonvolatile memory of a part that was never programmed or committed (R152). -/
def Nonvolatile.blank : Nonvolatile where
  bankA := .blank
  bankB := .blank
  cell0 := .blank
  cell1 := .blank

/-- The machine right after reset: a new part, powered, with RESET_N just released. The mode is
STARTING, the start-up scan has begun and ALERT_N is asserted (R161, R165). The straps at 00, KEYSW low
and the new part's memory are DESIGN CHOICES (notes/assumptions/3.md and 4.md). -/
def State.reset : State where
  pins := { powered := true, resetN := true, keysw := false, alert := true }
  straps := { rate := 0#2, madr := 0#2 }
  ur := .hunt
  dr := .hunt
  urAwaitsHigh := false
  drAwaitsHigh := false
  ut := none
  utCut := none
  dt := none
  tt := .powerOn
  rt := .empty
  me := .powerOn
  nv := .blank
  ts := { Store.powerOn with startUp := .scanning }
  draws := 0
  pending := []

end Sys2Proof.Machine
end

