-- ==== Sys2Proof/Machine/Operands.lean ====
section
/-! DEFINITION. What travels on the lines and what lies in the cells, as bytes: characters, frames and
their check, and the images of entries and headers. -/

namespace Sys2Proof.Machine

/-! ### Two-character numbers -/

/-- The high half of a two-character number. -/
def highHalf (w : Word) : Byte := w.extractLsb' 8 8

/-- The low half of a two-character number. -/
def lowHalf (w : Word) : Byte := w.extractLsb' 0 8

/-- A two-character number, high half first. -/
def wordOf (hi lo : Byte) : Word := hi ++ lo

/-! ### The check (R5) -/

/-- One bit of the check: the register's most significant bit against the data bit (R5). -/
def crcBit (reg : Word) (bit : Bool) : Word :=
  if reg.msb = bit then reg <<< 1 else (reg <<< 1) ^^^ 0x1021#16

/-- One byte of the check, most significant bit first (R5). -/
def crcByte (reg : Word) (b : Byte) : Word :=
  [7, 6, 5, 4, 3, 2, 1, 0].foldl (fun r i => crcBit r (b.getLsbD i)) reg

/-- The check of a sequence of bytes: the register is preset to all ones (R5). -/
def crc (bytes : List Byte) : Word := bytes.foldl crcByte 0xFFFF#16

/-! ### Characters (R1, R2) -/

/-- A complete character: its byte and its lead mark. -/
structure Character where
  byte : Byte
  lead : Bool
deriving DecidableEq, Repr

/-- The levels of a character on the line, one per bit time: the start bit, the eight bits of the byte
with the least significant first, the lead mark and the stop bit (R1). -/
def Character.bits (c : Character) : List Bool :=
  false :: (List.range 8).map (fun i => c.byte.getLsbD i) ++ [c.lead, true]

/-- What a receiver makes of the nine data bits and the stop bit it samples after a recognised start
bit: a character, or nothing when the stop bit reads low, which is a character error (R2). -/
def Character.ofSamples (data : List Bool) (stop : Bool) : Option Character :=
  if stop then
    some { byte := (BitVec.ofBoolListLE (data.take 8)).setWidth 8, lead := data.getD 8 false }
  else none

/-! ### Frames (R4) -/

/-- The Function character of a frame (R4). -/
def Frame.functionByte (f : Frame) : Byte := BitVec.ofBool f.dir ++ BitVec.ofBool f.exc ++ f.fn

/-- The bytes of a frame from the Address to the last payload character (R4). -/
def Frame.body (f : Frame) : List Byte :=
  f.addr :: f.functionByte :: f.seq :: BitVec.ofNat 8 f.payload.length :: f.payload

/-- The check a transmitter sends with a frame (R18). -/
def Frame.check (f : Frame) : Word := crc f.body

/-- The bytes of a frame as they are sent (R4, R5). -/
def Frame.bytes (f : Frame) : List Byte := f.body ++ [highHalf f.check, lowHalf f.check]

/-- The characters a transmitter sends for a frame: the lead mark is set on the first alone (R18). -/
def Frame.characters (f : Frame) : List Character :=
  match f.bytes with
  | [] => []
  | b :: bs => { byte := b, lead := true } :: bs.map fun c => { byte := c, lead := false }

/-- The frame record of the bytes from the Address to the last payload character (R4, R11). -/
def Frame.ofBody (body : List Byte) : Frame where
  addr := body.getD 0 0
  dir := (body.getD 1 0).getLsbD 7
  exc := (body.getD 1 0).getLsbD 6
  fn := (body.getD 1 0).setWidth 6
  seq := body.getD 2 0
  payload := body.drop 4

/-- The character a SENDING transmitter is putting on its line, if any is left (R18). -/
def InFlight.onLine (x : InFlight) : Option Character := x.frame.characters[x.position]?

/-! ### Slots, pages and segments (R24) -/

/-- The page a slot lies in. -/
def pageOf (n : SlotNo) : PageNo := ⟨n.val / 8, by omega⟩

/-- The segment a slot lies in. -/
def segmentOf (n : SlotNo) : SegmentNo := ⟨n.val / 64, by omega⟩

/-- The segment a page lies in. -/
def segmentOfPage (p : PageNo) : SegmentNo := ⟨p.val / 8, by omega⟩

/-- The slot at a place of a page. -/
def slotAt (p : PageNo) (i : Fin 8) : SlotNo := ⟨8 * p.val + i.val, by omega⟩

/-- The place of a slot in its page. -/
def placeOf (n : SlotNo) : Fin 8 := ⟨n.val % 8, by omega⟩

/-! ### Entry images (R29 to R35) -/

/-- `bytes` followed by 00h up to a length of `n`. -/
def padTo (n : Nat) (bytes : List Byte) : List Byte := bytes ++ List.replicate (n - bytes.length) 0

/-- Positions 2 to 19 of the image of an action (R29). -/
def Action.image : Action → List Byte
  | .forward p =>
      [0x00, p.outAddr, p.outFn, p.retryLimit, p.timeout, p.strip, BitVec.ofNat 8 p.front.length]
        ++ padTo 4 p.front ++ List.replicate 7 0
  | .answer cs => [0x01] ++ List.replicate 10 0 ++ [BitVec.ofNat 8 cs.length] ++ padTo 6 cs
  | .reject reason => [0x02] ++ List.replicate 10 0 ++ [reason] ++ List.replicate 6 0
  | .drop => [0x03] ++ List.replicate 17 0

/-- The 20-character image of an entry (R29). -/
def Entry.image (e : Entry) : List Byte := e.keyAddr :: e.keyFn :: e.action.image

/-- The legal key addresses (R30). -/
def keyAddrLegal (k : Byte) : Bool := k ≤ 0xEF#8 || k = 0xFF#8

/-- The legal key functions, and the legal out functions (R30, R31). -/
def functionLegal (k : Byte) : Bool := k ≤ 0x3F#8 || k = 0xFF#8

/-- The legal out addresses (R31). -/
def outAddrLegal (k : Byte) : Bool := (1#8 ≤ k && k ≤ 0xEF#8) || k = 0xFF#8

/-- Positions `i` up to but not including `j` of an image all hold 00h. -/
def zeroFrom (image : List Byte) (i j : Nat) : Bool := ((image.take j).drop i).all (· == 0)

/-- A FORWARD entry keyed on address 0 governs broadcasts: its out address is SAME, and its retry limit,
reply timeout and strip count are 0 (R32). -/
def broadcastLegal (key : Byte) (p : ForwardParams) : Bool :=
  key ≠ 0 || (p.outAddr = 0xFF#8 && p.retryLimit = 0 && p.timeout = 0 && p.strip = 0)

/-- The action an image of 20 characters holds, or none where a rule of R30 to R35 is broken by the
characters from position 2 on. -/
def Action.ofImage (image : List Byte) : Option Action :=
  let at' := fun i => image.getD i 0
  if at' 2 = 0x00#8 then
    let front := (image.drop 9).take (at' 8).toNat
    let p : ForwardParams :=
      { outAddr := at' 3, outFn := at' 4, retryLimit := at' 5, timeout := at' 6, strip := at' 7, front }
    if outAddrLegal p.outAddr && functionLegal p.outFn && p.retryLimit ≤ 3#8 && p.strip ≤ 4#8
        && at' 8 ≤ 4#8 && zeroFrom image (9 + (at' 8).toNat) 20 && broadcastLegal (at' 0) p then
      some (.forward p)
    else none
  else if at' 2 = 0x01#8 then
    if at' 0 ≠ 0 && zeroFrom image 3 13 && at' 13 ≤ 6#8 && zeroFrom image (14 + (at' 13).toNat) 20 then
      some (.answer ((image.drop 14).take (at' 13).toNat))
    else none
  else if at' 2 = 0x02#8 then
    if at' 0 ≠ 0 && zeroFrom image 3 13 && at' 13 ≤ 0xDF#8 && zeroFrom image 14 20 then
      some (.reject (at' 13))
    else none
  else if at' 2 = 0x03#8 then
    if zeroFrom image 3 20 then some .drop else none
  else none

/-- The entry of an image, if the image is legal: 20 characters, each with a value R29 to R35 permit. -/
def Entry.ofImage (image : List Byte) : Option Entry :=
  if image.length = 20 && keyAddrLegal (image.getD 0 0) && functionLegal (image.getD 1 0) then
    (Action.ofImage image).map fun a => { keyAddr := image.getD 0 0, keyFn := image.getD 1 0, action := a }
  else none

/-- An action whose parameters are in the ranges of R31 to R34, under the key address `key`. -/
def Action.legal (key : Byte) : Action → Bool
  | .forward p =>
      outAddrLegal p.outAddr && functionLegal p.outFn && p.retryLimit ≤ 3#8 && p.strip ≤ 4#8
        && p.front.length ≤ 4 && broadcastLegal key p
  | .answer cs => key ≠ 0 && cs.length ≤ 6
  | .reject reason => key ≠ 0 && reason ≤ 0xDF#8
  | .drop => true

/-- An entry whose image is legal (R29 to R35). -/
def Entry.legal (e : Entry) : Bool :=
  keyAddrLegal e.keyAddr && functionLegal e.keyFn && e.action.legal e.keyAddr

/-! ### Header images (R36) -/

/-- The code of a miss action (R36). -/
def MissAction.code : MissAction → Byte
  | .drop => 0x00
  | .reject => 0x01

/-- The 8-character image of a header (R36). -/
def Header.image (h : Header) : List Byte :=
  [h.mgmtAddr, h.missAction.code, h.defaultTimeout, h.quarantine] ++ h.label.toList

/-- A header whose image is legal (R36). -/
def Header.legal (h : Header) : Bool :=
  0xF0#8 ≤ h.mgmtAddr && h.mgmtAddr ≤ 0xFE#8 && h.defaultTimeout ≠ 0 && h.quarantine ≠ 0

/-- The header of an image, if the image is legal (R36). -/
def Header.ofImage (image : List Byte) : Option Header :=
  match image with
  | [address, miss, timeout, time, l0, l1, l2, l3] =>
      let h := fun m => { mgmtAddr := address, missAction := m, defaultTimeout := timeout,
                          quarantine := time, label := #v[l0, l1, l2, l3] : Header }
      if miss = 0x00#8 then (if (h .drop).legal then some (h .drop) else none)
      else if miss = 0x01#8 then (if (h .reject).legal then some (h .reject) else none)
      else none
  | _ => none

end Sys2Proof.Machine
end

