-- ==== Sys2Proof/Machine/Flags.lean ====
section
/-! DEFINITION. The codes of states, results and flags as replies report them, the sixteen counters,
and the ALERT_N output. -/

namespace Sys2Proof.Machine

/-! ### Codes -/

/-- 00h clear, 01h set. -/
def flagCode (b : Bool) : Byte := if b then 0x01 else 0x00

/-- A bank as it is written in requests and replies (R24). -/
def bankCode : BankId → Byte
  | .bankA => 0x00
  | .bankB => 0x01

/-- The code of an element condition (R25). -/
def Element.code {α : Type} : Element α → Byte
  | .blank => 0x00
  | .valid _ => 0x01
  | .torn => 0x02
  | .programming => 0x03

/-- The code of a segment condition (R26). -/
def SegmentCondition.code : SegmentCondition → Byte
  | .normal => 0x00
  | .erasing => 0x01
  | .eraseIncomplete => 0x02

/-- The code of the part mode (R173). -/
def Mode.code : Mode → Byte
  | .starting => 0x00
  | .running _ => 0x01
  | .unconfigured _ => 0x02

/-- The code of the store state (R119, R120). -/
def storeStateCode : Option StoreOp → Byte
  | none => 0x00
  | some (.programStage ..) => 0x01
  | some (.programHeader ..) => 0x01
  | some (.eraseSegment ..) => 0x02
  | some (.eraseBank ..) => 0x02
  | some (.copySegment ..) => 0x03
  | some (.lockSegment ..) => 0x04
  | some (.checkBank ..) => 0x05
  | some (.commit ..) => 0x06

/-- The code of the last operation (R119). -/
def LastOp.code : LastOp → Byte
  | .none => 0x00
  | .programStage => 0x12
  | .programHeader => 0x13
  | .eraseSegment => 0x14
  | .eraseBank => 0x15
  | .copySegment => 0x16
  | .lockSegment => 0x17
  | .checkBank => 0x18
  | .commit => 0x19
  | .startUp => 0xFF

/-- The code of the last result (R119). -/
def LastResult.code : LastResult → Byte
  | .ok => 0x00
  | .notBlank => 0x01
  | .verifyFail => 0x02
  | .interrupted => 0x03
  | .checkMismatch => 0x04
  | .bankNotReady => 0x05
  | .activeCheckFail => 0x06

/-- The code of a tag state (R177). -/
def TagState.code : TagState → Byte
  | .free => 0x00
  | .busy _ => 0x01
  | .releasing _ => 0x02
  | .quarantine _ => 0x03
  | .quiet => 0x03

/-- The code of a record state (R177). -/
def RecordState.code : RecordState → Byte
  | .waitLine => 0x00
  | .sending => 0x01
  | .awaitReply => 0x02
  | .held .. => 0x03

/-- The refusal codes of management replies (R171). -/
inductive Declined where
  | busy
  | faulted
  | badArgument
  | locked
  | notPermitted
  | stageMismatch
  | stageEmpty
  | unknownCommand
  | noActive
deriving DecidableEq, Repr

/-- The code of a refusal (R171). -/
def Declined.code : Declined → Byte
  | .busy => 0xF1
  | .faulted => 0xF2
  | .badArgument => 0xF3
  | .locked => 0xF4
  | .notPermitted => 0xF5
  | .stageMismatch => 0xF6
  | .stageEmpty => 0xF7
  | .unknownCommand => 0xF8
  | .noActive => 0xF9

/-- The payload of each exception the part makes itself: the reason character and the detail
character where the reason has one (R102). -/
inductive Reason where
  | noReply (attempts : Nat)
  | congested
  | rejected (reason : Byte)
  | noEntry
  | oversize
  | noTable
deriving DecidableEq, Repr

/-- The characters of an exception payload (R102). -/
def Reason.payload : Reason → List Byte
  | .noReply attempts => [0xE1, BitVec.ofNat 8 attempts]
  | .congested => [0xE2, 0x00]
  | .rejected reason => [0xE3, reason]
  | .noEntry => [0xE4]
  | .oversize => [0xE5]
  | .noTable => [0xE6]

/-! ### Counters (R186, R187) -/

/-- The sixteen counters. -/
inductive Counter where
  | upFrames
  | upCheckErr
  | upFormErr
  | dnFrames
  | dnCheckErr
  | dnFormErr
  | foreign
  | duplicates
  | notForwarded
  | congested
  | retransmissions
  | noReply
  | lateReplies
  | strayReplies
  | upOverflow
  | mgmtOverrun
deriving DecidableEq, Repr

/-- The number of a counter (R187). -/
def Counter.number : Counter → Fin 16
  | .upFrames => 0
  | .upCheckErr => 1
  | .upFormErr => 2
  | .dnFrames => 3
  | .dnCheckErr => 4
  | .dnFormErr => 5
  | .foreign => 6
  | .duplicates => 7
  | .notForwarded => 8
  | .congested => 9
  | .retransmissions => 10
  | .noReply => 11
  | .lateReplies => 12
  | .strayReplies => 13
  | .upOverflow => 14
  | .mgmtOverrun => 15

/-- A vector with one place changed. -/
def setAt {α : Type} {n : Nat} (v : Vector α n) (i : Fin n) (x : α) : Vector α n := v.set i.val x i.isLt

/-- An increment saturates at 65535 (R186). -/
def bump (w : Word) : Word := if w = 0xFFFF#16 then w else w + 1#16

/-- The counter's value. -/
def State.counter (s : State) (c : Counter) : Word := s.me.counters.get c.number

/-- One increment of one counter (R186). -/
def State.count (s : State) (c : Counter) : State :=
  { s with me := { s.me with counters := setAt s.me.counters c.number (bump (s.counter c)) } }

/-! ### ALERT_N (R165) -/

/-- Whether the part is RUNNING. -/
def Mode.isRunning : Mode → Bool
  | .running _ => true
  | _ => false

/-- When ALERT_N is asserted: held in reset, STARTING or UNCONFIGURED, or with the fault latch set; an
unpowered part drives nothing (R165, notes/assumptions/5.md). -/
def State.alertLevel (s : State) : Bool :=
  s.pins.powered && (!s.pins.resetN || !s.ts.mode.isRunning || s.ts.faultLatch)

/-- ALERT_N follows the mode and the latch in the event that changes them (R165). -/
def State.driveAlert (s : State) : State := { s with pins := { s.pins with alert := s.alertLevel } }

end Sys2Proof.Machine
end

