-- ==== Sys2Proof/Machine/Ops.lean ====
section
/-! DEFINITION. The shared operations: over the slots and segments of a bank, over tags and queues, over
the store operation in flight, and the sweeps that reset, restart and the quiet period make. -/

namespace Sys2Proof.Machine

/-! ### The slots of a bank -/

/-- What a slot records: BLANK where the map lists nothing (R25). -/
def SlotMap.read : SlotMap → SlotNo → Slot
  | [], _ => .blank
  | (k, x) :: m, n => if k = n then x else SlotMap.read m n

/-- List a slot in its place by rising number, in the place of what was listed for it. -/
def SlotMap.insert : SlotMap → SlotNo → Slot → SlotMap
  | [], n, x => [(n, x)]
  | (k, y) :: m, n, x =>
      if n < k then (n, x) :: (k, y) :: m
      else if n = k then (n, x) :: m
      else (k, y) :: SlotMap.insert m n x

/-- Make a slot record `x`. Recording BLANK removes the slot from the list. -/
def SlotMap.write (m : SlotMap) (n : SlotNo) (x : Slot) : SlotMap :=
  if x = .blank then m.filter fun p => p.1 ≠ n else SlotMap.insert m n x

/-- Make every slot for which `cleared` holds BLANK. -/
def SlotMap.clear (m : SlotMap) (cleared : SlotNo → Bool) : SlotMap := m.filter fun p => !cleared p.1

/-- The canonical form: strictly rising slot numbers and no BLANK listed. -/
abbrev SlotMap.Wf (m : SlotMap) : Prop :=
  m.Pairwise (fun p q => p.1 < q.1) ∧ ∀ p ∈ m, p.2 ≠ .blank

/-! ### Banks -/

/-- The other bank. -/
def otherBank : BankId → BankId
  | .bankA => .bankB
  | .bankB => .bankA

/-- One of the two banks. -/
def Nonvolatile.bank (v : Nonvolatile) : BankId → Bank
  | .bankA => v.bankA
  | .bankB => v.bankB

/-- Change one of the two banks. -/
def Nonvolatile.mapBank (v : Nonvolatile) (f : Bank → Bank) : BankId → Nonvolatile
  | .bankA => { v with bankA := f v.bankA }
  | .bankB => { v with bankB := f v.bankB }

/-- One of the two pointer cells. -/
def Nonvolatile.cell (v : Nonvolatile) : CellId → PointerCell
  | .zero => v.cell0
  | .one => v.cell1

/-- Put one of the two pointer cells in a condition. -/
def Nonvolatile.setCell (v : Nonvolatile) (x : PointerCell) : CellId → Nonvolatile
  | .zero => { v with cell0 := x }
  | .one => { v with cell1 := x }

/-- The other pointer cell. -/
def CellId.other : CellId → CellId
  | .zero => .one
  | .one => .zero

/-- What a slot of the bank records. -/
def Bank.slot (b : Bank) (n : SlotNo) : Slot := SlotMap.read b.slots n

/-- The bank with one slot changed. -/
def Bank.setSlot (b : Bank) (n : SlotNo) (x : Slot) : Bank := { b with slots := SlotMap.write b.slots n x }

/-- The bank with its header changed. -/
def Bank.setHeader (b : Bank) (x : Element Header) : Bank := { b with header := x }

/-- The bank with one segment in a condition. -/
def Bank.setCondition (b : Bank) (n : SegmentNo) (c : SegmentCondition) : Bank :=
  { b with segments := setAt b.segments n c }

/-- The bank with one segment's lock flag changed. -/
def Bank.setLock (b : Bank) (n : SegmentNo) (lock : Bool) : Bank := { b with locks := setAt b.locks n lock }

/-- The end of a segment erase: every slot of the segment BLANK, the segment NORMAL, and its lock clear
if override was given (R126). -/
def Bank.segmentErased (b : Bank) (n : SegmentNo) (override : Bool) : Bank :=
  { b with
    slots := SlotMap.clear b.slots fun k => segmentOf k = n
    segments := setAt b.segments n .normal
    locks := if override then setAt b.locks n false else b.locks }

/-- Whether a segment is NORMAL with every slot BLANK: the blank test of COPY SEGMENT (R140). -/
def Bank.segmentBlank (b : Bank) (n : SegmentNo) : Bool :=
  b.segments.get n = .normal && b.slots.all fun p => segmentOf p.1 ≠ n

/-- The lowest VALID slot of a segment from slot number `from'` on, with its entry (R140). -/
def Bank.nextValid (b : Bank) (n : SegmentNo) (from' : Nat) : Option (SlotNo × Entry) :=
  b.slots.findSome? fun p =>
    match p.2 with
    | .valid e => if segmentOf p.1 = n && from' ≤ p.1.val then some (p.1, e) else none
    | _ => none

/-- A bank that may be committed (R155): its header is VALID, none of its slots is TORN and all eight
segments are NORMAL. -/
def Bank.ready (b : Bank) : Bool :=
  (match b.header with | .valid _ => true | _ => false)
    && b.slots.all (fun p => p.2 ≠ .torn)
    && (List.finRange 8).all fun i => b.segments.get i = .normal

/-! ### The bank check (R40) -/

/-- What an element contributes to the bank check: its code, and its image if it is VALID. -/
def Element.checkBytes {α : Type} (image : α → List Byte) (x : Element α) : List Byte :=
  x.code :: match x with | .valid y => image y | _ => []

/-- The sequence of bytes the bank check is computed over (R40). -/
def Bank.checkBytes (b : Bank) : List Byte :=
  b.header.checkBytes Header.image
    ++ (List.finRange 512).flatMap fun n => (b.slot n).checkBytes Entry.image

/-- The bank check (R40, R41). -/
def Bank.check (b : Bank) : Word := crc b.checkBytes

/-! ### Lookup (R38) -/

/-- The key of an entry matches a request. ANY as a key address matches 1 to 239 and not 0 (R30). -/
def Entry.covers (e : Entry) (addr : Byte) (fn : FunctionCode) : Bool :=
  (e.keyAddr = addr || (e.keyAddr = 0xFF#8 && 1#8 ≤ addr && addr ≤ 0xEF#8))
    && (e.keyFn = fn.setWidth 8 || e.keyFn = 0xFF#8)

/-- The entry of a slot that qualifies for a request: VALID, in a NORMAL segment, with a key that
matches (R38). -/
def Bank.qualifying (b : Bank) (addr : Byte) (fn : FunctionCode) (p : SlotNo × Slot) :
    Option (SlotNo × Entry) :=
  match p.2 with
  | .valid e =>
      if b.segments.get (segmentOf p.1) = .normal && e.covers addr fn then some (p.1, e) else none
  | _ => none

/-- The qualifying slot with the lowest number, or none: a miss (R38). -/
def Bank.lookup (b : Bank) (addr : Byte) (fn : FunctionCode) : Option (SlotNo × Entry) :=
  b.slots.findSome? (b.qualifying addr fn)

/-! ### Values that follow from the mode (R42 to R45) -/

/-- The bank store operations write. In STARTING no block consults it (R42, notes/assumptions/5.md). -/
def Mode.standby : Mode → BankId
  | .starting => .bankA
  | .running v => otherBank v.active
  | .unconfigured b => b

/-- The active bank, in RUNNING alone (R42). -/
def Mode.active : Mode → Option BankId
  | .running v => some v.active
  | _ => none

/-- The generation the part reports: 0 with no record in force (R45). -/
def Mode.generation : Mode → Word
  | .running v => v.generation
  | _ => 0

/-- The effective management address (R44). -/
def State.mgmtAddr (s : State) : Byte :=
  match s.ts.mode with
  | .running v => v.header.mgmtAddr
  | _ => Config.strappedBase + s.straps.madr.setWidth 8

/-- The length of a quiet period that begins now, in units of 10 ms (R73). -/
def State.quietLength (s : State) : Byte :=
  match s.ts.mode with
  | .running v => v.header.quarantine
  | _ => Config.quietWithoutTable

/-! ### State updates -/

/-- Change one bank. -/
def State.mapBank (s : State) (b : BankId) (f : Bank → Bank) : State := { s with nv := s.nv.mapBank f b }

/-- Put one pointer cell in a condition. -/
def State.setCell (s : State) (c : CellId) (x : PointerCell) : State := { s with nv := s.nv.setCell x c }

/-- The state of a tag. -/
def State.tag (s : State) (t : Tag) : TagState := s.tt.tags.get t

/-- Put a tag in a state. -/
def State.setTag (s : State) (t : Tag) (x : TagState) : State :=
  { s with tt := { s.tt with tags := setAt s.tt.tags t x } }

/-- A tag becomes FREE and joins the tail of the free list (R70). -/
def State.freeTag (s : State) (t : Tag) : State :=
  { s with tt := { s.tt with tags := setAt s.tt.tags t .free, freeList := s.tt.freeList ++ [t] } }

/-- Whether an entry of the Downline Transmit Queue is UNTRACKED (R77). -/
def DqEntry.isUntracked : DqEntry → Bool
  | .untracked _ => true
  | .tracked _ => false

/-- Append an entry to the Downline Transmit Queue (R77). -/
def State.enqueueDown (s : State) (x : DqEntry) : State := { s with tt := { s.tt with dq := s.tt.dq ++ [x] } }

/-- Withdraw a tag's entry from the Downline Transmit Queue, wherever it stands (R77, R88). -/
def State.withdraw (s : State) (t : Tag) : State :=
  { s with tt := { s.tt with dq := s.tt.dq.filter fun x => x ≠ .tracked t } }

/-- Append a frame to the Upline Transmit Queue (R104). -/
def State.enqueueUp (s : State) (f : Frame) : State := { s with rt := { s.rt with uq := s.rt.uq ++ [f] } }

/-- Whether the Upline Transmit Queue has room (R104, R105). -/
def State.upRoom (s : State) : Bool := s.rt.uq.length < Config.queuePlaces

/-- The store status with another operation in flight, or none. -/
def State.setOp (s : State) (op : Option StoreOp) : State := { s with ts := { s.ts with op := op } }

/-! ### Offers to the Return Path (R106) -/

/-- A synthesized reply is appended, or discarded and counted (R67, R116). -/
def State.offerSynthesized (s : State) (f : Frame) : State :=
  if s.upRoom then s.enqueueUp f else s.count .upOverflow

/-- A management reply is appended, or waits in the holder (R106). -/
def State.offerManagement (s : State) (f : Frame) : State :=
  if s.upRoom then s.enqueueUp f else { s with me := { s.me with holder := some f } }

/-! ### The end of a record (R92) -/

/-- Whether DT's current transmission is a tag's. -/
def State.sendingTag (s : State) (t : Tag) : Bool :=
  match s.dt with
  | some d => d.current = .tracked t
  | none => false

/-- A record ends by the delivery of a reply and its tag is released (R92): RELEASING while DT sends
it; FREE after one attempt answered by a station reply that was not accepted in SENDING; QUARANTINE
otherwise. -/
def State.endRecord (s : State) (t : Tag) (r : Record) (origin : Origin) : State :=
  if s.sendingTag t then s.setTag t (.releasing r.quarantine)
  else if r.retransmissions = 0 && origin = .station then s.freeTag t
  else s.setTag t (.quarantine r.quarantine)

/-- A reply for a record is delivered (R90): appended to the Upline Transmit Queue with the end of the
record, or held in the record with the tag at the tail of the hold list. -/
def State.deliver (s : State) (t : Tag) (r : Record) (reply : Frame) (origin : Origin) : State :=
  if s.upRoom then (s.enqueueUp reply).endRecord t r origin
  else
    let s' := s.setTag t (.busy { r with state := .held reply origin })
    { s' with rt := { s'.rt with holdList := s'.rt.holdList ++ [t] } }

/-! ### The store operation in flight (R120, R121, R146) -/

/-- An accepted operation raises the operation number and becomes the last operation (R121). -/
def State.accept (s : State) (last : LastOp) : State :=
  { s with ts := { s.ts with opNumber := s.ts.opNumber + 1, lastOp := last } }

/-- The completion of an operation (R120, R121, R146): the store state is IDLE, the last result is set,
any result but OK sets the fault latch, and ALERT_N follows. -/
def State.complete (s : State) (result : LastResult) : State :=
  { s with ts := { s.ts with
      op := none, lastResult := result
      faultLatch := s.ts.faultLatch || decide (result ≠ LastResult.ok) } }.driveAlert

/-- The completion of a PROGRAM STAGE empties the staging buffer, whatever the result (R132). -/
def State.completeStage (s : State) (result : LastResult) : State :=
  { s with ts := { s.ts with staging := .empty } }.complete result

/-! ### An erase that runs (R126) -/

/-- What an operation is erasing at this stage: a segment of a bank, or (none) its header. -/
def StoreOp.erasing : StoreOp → Option (BankId × Option SegmentNo)
  | .eraseSegment b n _ => some (b, some n)
  | .eraseBank b _ (.segment n) => some (b, some n)
  | .eraseBank b _ .header => some (b, none)
  | _ => none

/-- What the cells hold at this moment of an erase (R126): each slot of the segment, or the header, is
as the erase found it or BLANK already, a FREE VALUE per draw (notes/assumptions/7.md). -/
def State.eraseProgress (s : State) : State :=
  match s.ts.op.bind StoreOp.erasing with
  | some (b, some n) =>
      { s.mapBank b (fun k => { k with
          slots := SlotMap.clear k.slots fun i => segmentOf i = n && Config.slotCleared s.draws i.val })
        with draws := s.draws + 1 }
  | some (b, none) =>
      { s.mapBank b (fun k => if Config.headerCleared s.draws then k.setHeader .blank else k)
        with draws := s.draws + 1 }
  | none => s

/-! ### Sweeps -/

/-- The quiet period begins: all 32 tags in QUARANTINE under one timer, the free list empty (R73). -/
def State.beginQuiet (s : State) : State :=
  { s with tt := { s.tt with
      tags := Vector.replicate 32 .quiet, freeList := [], quietTimer := some s.quietLength } }

/-- A RESTART takes place (R185, R16, R22, R97, R113). -/
def State.restart (s : State) : State :=
  { s with
    ur := .hunt
    dr := .hunt
    ut := none
    utCut := none
    dt := none
    tt := { s.tt with dq := [] }
    rt := .empty
    me := .powerOn }.beginQuiet

/-- What being held in reset does to the volatile state (R161, R15, R22, R96, R114, R119, R166, R186). The
straps' 00 until they are sampled is a DESIGN CHOICE (notes/assumptions/5.md). -/
def State.volatileReset (s : State) : State :=
  { s with
    straps := { rate := 0, madr := 0 }
    ur := .hunt
    dr := .hunt
    urAwaitsHigh := false
    drAwaitsHigh := false
    ut := none
    utCut := none
    dt := none
    tt := .powerOn
    rt := .empty
    me := .powerOn
    ts := .powerOn }

/-- The part leaves reset: STARTING, the straps sampled, the start-up scan begun (R161). -/
def State.enterStarting (s : State) (rate madr : BitVec 2) : State :=
  { s with straps := { rate, madr }, ts := { s.ts with mode := .starting, startUp := .scanning } }

end Sys2Proof.Machine
end

