-- ==== Sys2Proof/Machine/Power.lean ====
section
/-! DEFINITION. Power and RESET_N: the commands POWER_ON, POWER_FAIL, RESET_N_FALL and RESET_N_RELEASE
(R149, R150, R160, R161). -/

namespace Sys2Proof.Machine

/-- Power or RESET_N goes: an erase in flight leaves its slots or its header part cleared (R150), and
everything volatile is lost (R149). Nothing else of the nonvolatile memory changes. -/
def State.interrupt (s : State) : State := s.eraseProgress.volatileReset

/-- POWER_ON (R161): with RESET_N high the part enters STARTING, with RESET_N low it is held in reset. -/
def execPowerOn (rate madr : BitVec 2) (s : State) : Host.Outcome State Fault Refusal :=
  if s.pins.powered then .fault .alreadyPowered
  else
    let s' := { s.volatileReset with pins := { s.pins with powered := true } }
    .next (if s.pins.resetN then s'.enterStarting rate madr else s').driveAlert

/-- POWER_FAIL (R149). -/
def execPowerFail (s : State) : Host.Outcome State Fault Refusal :=
  if s.pins.powered then .next { s.interrupt with pins := { s.pins with powered := false } }.driveAlert
  else .fault .notPowered

/-- RESET_N_FALL (R161): the part is held in reset. Of an unpowered part only the pin changes. -/
def execResetNFall (s : State) : Host.Outcome State Fault Refusal :=
  if s.pins.resetN then
    .next { (if s.pins.powered then s.interrupt else s) with pins := { s.pins with resetN := false } }.driveAlert
  else .fault .resetAlreadyLow

/-- RESET_N_RELEASE (R161): volatile state takes its power-on values, the straps are sampled and the
start-up scan begins. Of an unpowered part only the pin changes. -/
def execResetNRelease (rate madr : BitVec 2) (s : State) : Host.Outcome State Fault Refusal :=
  if s.pins.resetN then .fault .resetAlreadyHigh
  else
    let s' := { s with pins := { s.pins with resetN := true } }
    .next (if s.pins.powered then s'.volatileReset.enterStarting rate madr else s').driveAlert

end Sys2Proof.Machine
end

