-- ==== Sys2Proof/Machine/RequestPath.lean ====
section
/-! DEFINITION. The Request Path: what becomes of each good upline frame that UR does not hand to the
Management Engine (Admitting Requests, R46 to R68). -/

namespace Sys2Proof.Machine

/-- A reply to a request, made by the part: the request's own Address, function code and Sequence, with
the direction bit set (R66, R171). -/
def Frame.reply (f : Frame) (exc : Bool) (payload : List Byte) : Frame where
  addr := f.addr
  dir := true
  exc := exc
  fn := f.fn
  seq := f.seq
  payload := payload

/-- An exception reply of the Request Path (R66, R102). -/
def Frame.exception (f : Frame) (reason : Reason) : Frame := f.reply true reason.payload

/-- A request that the part answers or refuses itself: one count, and the synthesized reply offered to
the Return Path (R66 to R68). -/
def State.answer (s : State) (c : Counter) (reply : Frame) : State := (s.count c).offerSynthesized reply

/-- The upline key of a record equals a request's (R51). -/
def Record.hasKey (r : Record) (f : Frame) : Bool :=
  r.upAddr = f.addr && r.upFn = f.fn && r.upTag = f.seq

/-- A tag whose record holds the request's upline key (R51). -/
def TagState.hasKey (f : Frame) : TagState → Bool
  | .busy r => r.hasKey f
  | _ => false

/-- Some record has the request's upline key (R51). -/
def State.duplicate (s : State) (f : Frame) : Bool := s.tt.tags.toList.any (TagState.hasKey f)

/-- The function code of the downline frame: the entry's, or the request's own under SAME (R57, R64). -/
def ForwardParams.functionFor (p : ForwardParams) (f : Frame) : FunctionCode :=
  if p.outFn = 0xFF#8 then f.fn else p.outFn.setWidth 6

/-- The address of the downline frame: the entry's, or the request's own under SAME (R57). -/
def ForwardParams.addressFor (p : ForwardParams) (f : Frame) : Byte :=
  if p.outAddr = 0xFF#8 then f.addr else p.outAddr

/-- The payload of the downline frame: the prefix, then the request's payload (R57, R64). -/
def ForwardParams.payloadFor (p : ForwardParams) (f : Frame) : List Byte := p.front ++ f.payload

/-- The record made at admission (R60), under the table in service. -/
def Service.recordFor (v : Service) (n : SlotNo) (p : ForwardParams) (f : Frame) : Record where
  upAddr := f.addr
  upFn := f.fn
  upTag := f.seq
  downAddr := p.addressFor f
  downFn := p.functionFor f
  downPayload := p.payloadFor f
  strip := p.strip.toNat
  replyTimeout := if p.timeout = 0 then v.header.defaultTimeout else p.timeout
  retryLimit := p.retryLimit.toNat
  retransmissions := 0
  quarantine := v.header.quarantine
  generation := v.generation
  slot := n.val
  state := .waitLine

/-- Admission (R59): the tag at the head of the free list becomes BUSY with the record, and its entry
joins the tail of the Downline Transmit Queue. -/
def State.admitRecord (s : State) (t : Tag) (rest : List Tag) (r : Record) : State :=
  { s with tt := { s.tt with
      tags := setAt s.tt.tags t (.busy r), freeList := rest, dq := s.tt.dq ++ [.tracked t] } }

/-- A station request whose entry is FORWARD (R57 to R61). -/
def State.forward (s : State) (v : Service) (n : SlotNo) (p : ForwardParams) (f : Frame) : State :=
  if Config.maxPayload < (p.payloadFor f).length then s.answer .notForwarded (f.exception .oversize)
  else
    match s.tt.freeList with
    | [] => s.answer .congested (f.exception .congested)
    | t :: rest => s.admitRecord t rest (v.recordFor n p f)

/-- A station request that is not a duplicate, carried out by its lookup (R53 to R56). -/
def State.translate (s : State) (v : Service) (f : Frame) : State :=
  match (s.nv.bank v.active).lookup f.addr f.fn with
  | none =>
      match v.header.missAction with
      | .drop => s.count .notForwarded
      | .reject => s.answer .notForwarded (f.exception .noEntry)
  | some (n, e) =>
      match e.action with
      | .forward p => s.forward v n p f
      | .answer characters => s.answer .notForwarded (f.reply false characters)
      | .reject reason => s.answer .notForwarded (f.exception (.rejected reason))
      | .drop => s.count .notForwarded

/-- A station request (R49 to R51). No request is taken in STARTING (R46). -/
def State.stationRequest (s : State) (f : Frame) : State :=
  match s.ts.mode with
  | .starting => s
  | .unconfigured _ => s.answer .notForwarded (f.exception .noTable)
  | .running v => if s.duplicate f then s.count .duplicates else s.translate v f

/-- The untracked frame of a forwarded broadcast (R64). -/
def ForwardParams.broadcastFrame (p : ForwardParams) (f : Frame) : Frame where
  addr := 0
  dir := false
  exc := false
  fn := p.functionFor f
  seq := 0xFF
  payload := p.payloadFor f

/-- A broadcast whose entry is FORWARD (R64, R65). -/
def State.forwardBroadcast (s : State) (p : ForwardParams) (f : Frame) : State :=
  if Config.maxPayload < (p.payloadFor f).length then s.count .notForwarded
  else if s.tt.dq.countP DqEntry.isUntracked < Config.untrackedPlaces then
    s.enqueueDown (.untracked (p.broadcastFrame f))
  else s.count .congested

/-- A broadcast request (R63). -/
def State.broadcastRequest (s : State) (f : Frame) : State :=
  match s.ts.mode with
  | .starting => s
  | .unconfigured _ => s.count .notForwarded
  | .running v =>
      match (s.nv.bank v.active).lookup f.addr f.fn with
      | some (_, { action := .forward p, .. }) => s.forwardBroadcast p f
      | _ => s.count .notForwarded

/-- The classes of R47. -/
inductive RequestClass where
  | foreign
  | broadcast
  | station
deriving DecidableEq, Repr

/-- The class of a frame: the first test it meets decides (R47). -/
def Frame.requestClass (f : Frame) : RequestClass :=
  if f.dir || f.exc || 0xF0#8 ≤ f.addr then .foreign
  else if f.addr = 0 then .broadcast
  else .station

/-- The Request Path takes a good frame (R46). -/
def State.takeRequest (s : State) (f : Frame) : State :=
  match f.requestClass with
  | .foreign => s.count .foreign
  | .broadcast => s.broadcastRequest f
  | .station => s.stationRequest f

end Sys2Proof.Machine
end

