-- ==== Sys2Proof/Machine/StoreIntake.lean ====
section
/-! DEFINITION. The Table Store's commands at their intake: the staging buffer, the tests of each
command in their order, and the start of each operation (R122 to R148, R154, R155). -/

namespace Sys2Proof.Machine

/-! ### The staging buffer (R127) -/

/-- The number of staged entries. -/
def Staging.count : Staging → Nat
  | .empty => 0
  | .page _ entries => entries.toList.countP Option.isSome

/-- The staged page, as it is reported: FFh when absent. -/
def Staging.pageCode : Staging → Byte
  | .empty => 0xFF
  | .page p _ => BitVec.ofNat 8 p.val

/-- The lowest staged slot of a page from slot number `from'` on, with its entry (R131). -/
def nextStaged (p : PageNo) (entries : Vector (Option Entry) 8) (from' : Nat) : Option (SlotNo × Entry) :=
  (List.finRange 8).findSome? fun i =>
    if from' ≤ (slotAt p i).val then (entries.get i).map fun e => (slotAt p i, e) else none

/-- The lowest staged slot from slot number `from'` on, with its entry (R131). -/
def Staging.next : Staging → Nat → Option (SlotNo × Entry)
  | .empty, _ => none
  | .page p entries, from' => nextStaged p entries from'

/-- The buffer with an entry added or replaced, or nothing when the slot lies in another page (R128). -/
def Staging.stage (n : SlotNo) (e : Entry) : Staging → Option Staging
  | .empty => some (.page (pageOf n) (setAt (Vector.replicate 8 none) (placeOf n) (some e)))
  | .page p entries => if pageOf n = p then some (.page p (setAt entries (placeOf n) (some e))) else none

/-- STAGE ENTRY (R128), with the characters of the image: legality, BUSY, then the staged page. -/
def State.stageEntry (s : State) (n : SlotNo) (image : List Byte) : Except Declined State :=
  match Entry.ofImage image with
  | none => .error .badArgument
  | some e =>
      if s.ts.op.isSome then .error .busy
      else
        match s.ts.staging.stage n e with
        | none => .error .stageMismatch
        | some b => .ok { s with ts := { s.ts with staging := b } }

/-- DISCARD STAGE (R129). -/
def State.discardStage (s : State) : Except Declined State :=
  if s.ts.op.isSome then .error .busy else .ok { s with ts := { s.ts with staging := .empty } }

/-! ### The tests every store command meets (R122) -/

/-- BUSY, then FAULTED, then the command's own conditions and its start (R122). -/
def State.storeTests (s : State) (rest : Except Declined State) : Except Declined State :=
  if s.ts.op.isSome then .error .busy else if s.ts.faultLatch then .error .faulted else rest

/-- The bank store operations write, as the store holds it now (R42, R43). -/
def State.standby (s : State) : BankId := s.ts.mode.standby

/-- A bank's segment is locked. -/
def State.locked (s : State) (b : BankId) (n : SegmentNo) : Bool := (s.nv.bank b).locks.get n

/-- The value of an override flag: 00h ordinary, 01h override, any other illegal (R134). -/
def overrideOf (flag : Byte) : Option Bool :=
  if flag = 0x00#8 then some false else if flag = 0x01#8 then some true else none

/-! ### Programming (R130 to R133) -/

/-- An element write of a slot begins: the slot is PROGRAMMING (R125). -/
def State.beginSlotWrite (s : State) (b : BankId) (n : SlotNo) (op : StoreOp) : State :=
  (s.mapBank b fun k => k.setSlot n .programming).setOp (some op)

/-- The next stage of a PROGRAM STAGE: the write of the next staged slot, or the completion (R131). -/
def State.programNext (s : State) (b : BankId) (next : Option (SlotNo × Entry)) : State :=
  match next with
  | some (n, e) => s.beginSlotWrite b n (.programStage b n e)
  | none => s.completeStage .ok

/-- The blank test of PROGRAM STAGE: every staged slot BLANK and their segment NORMAL (R131). -/
def Bank.pageBlank (k : Bank) (p : PageNo) (entries : Vector (Option Entry) 8) : Bool :=
  k.segments.get (segmentOfPage p) = .normal
    && (List.finRange 8).all fun i => (entries.get i).isNone || k.slot (slotAt p i) = .blank

/-- PROGRAM STAGE (R130, R131). -/
def State.programStage (s : State) : Except Declined State :=
  s.storeTests <|
    match s.ts.staging with
    | .empty => .error .stageEmpty
    | .page p entries =>
        if s.locked s.standby (segmentOfPage p) then .error .locked
        else
          let s' := s.accept .programStage
          if (s.nv.bank s.standby).pageBlank p entries then
            .ok (s'.programNext s.standby (nextStaged p entries 0))
          else .ok (s'.completeStage .notBlank)

/-- PROGRAM HEADER (R133), with the characters of the image. -/
def State.programHeader (s : State) (image : List Byte) : Except Declined State :=
  match Header.ofImage image with
  | none => .error .badArgument
  | some h =>
      s.storeTests <|
        let s' := s.accept .programHeader
        if (s.nv.bank s.standby).header = .blank then
          .ok ((s'.mapBank s.standby fun k => k.setHeader .programming).setOp
            (some (.programHeader s.standby h)))
        else .ok (s'.complete .notBlank)

/-! ### Erasing (R134 to R138) -/

/-- A segment erase begins: the segment is ERASING (R126). -/
def State.beginSegmentErase (s : State) (b : BankId) (n : SegmentNo) (op : StoreOp) : State :=
  (s.mapBank b fun k => k.setCondition n .erasing).setOp (some op)

/-- NOT_PERMITTED when override is given with KEYSW low (R134). -/
def State.permitted (s : State) (override : Bool) : Bool := !override || s.pins.keysw

/-- ERASE SEGMENT (R135). -/
def State.eraseSegment (s : State) (n : SegmentNo) (flag : Byte) : Except Declined State :=
  match overrideOf flag with
  | none => .error .badArgument
  | some override =>
      s.storeTests <|
        if !s.permitted override then .error .notPermitted
        else if !override && s.locked s.standby n then .error .locked
        else .ok ((s.accept .eraseSegment).beginSegmentErase s.standby n (.eraseSegment s.standby n override))

/-- ERASE BANK (R137): its first stage is the header erase. -/
def State.eraseBank (s : State) (flag : Byte) : Except Declined State :=
  match overrideOf flag with
  | none => .error .badArgument
  | some override =>
      s.storeTests <|
        if !s.permitted override then .error .notPermitted
        else .ok ((s.accept .eraseBank).setOp (some (.eraseBank s.standby override .header)))

/-- The next stage of an ERASE BANK: the lowest segment from number `from'` on that is not skipped, or
the completion (R137, R138). A segment is skipped when it is locked and override was not given. -/
def State.eraseNext (s : State) (b : BankId) (override : Bool) (from' : Nat) : State :=
  match (List.finRange 8).find? fun n => from' ≤ n.val && (override || !s.locked b n) with
  | some n => s.beginSegmentErase b n (.eraseBank b override (.segment n))
  | none => s.complete .ok

/-! ### Copying (R139 to R141) -/

/-- The next stage of a COPY SEGMENT: the write of the next slot to copy, or the completion (R140). -/
def State.copyNext (s : State) (b : BankId) (n : SegmentNo) (next : Option (SlotNo × Entry)) : State :=
  match next with
  | some (k, e) => s.beginSlotWrite b k (.copySegment b n k e)
  | none => s.complete .ok

/-- The slots of a source segment that are copied, from slot number `from'` on: the VALID ones of a
NORMAL segment, and none of any other (R140). -/
def Bank.nextToCopy (k : Bank) (n : SegmentNo) (from' : Nat) : Option (SlotNo × Entry) :=
  if k.segments.get n = .normal then k.nextValid n from' else none

/-- COPY SEGMENT (R139, R140). -/
def State.copySegment (s : State) (n : SegmentNo) : Except Declined State :=
  s.storeTests <|
    match s.ts.mode.active with
    | none => .error .noActive
    | some a =>
        if s.locked s.standby n then .error .locked
        else
          let s' := s.accept .copySegment
          if (s.nv.bank s.standby).segmentBlank n then
            .ok (s'.copyNext s.standby n ((s.nv.bank a).nextToCopy n 0))
          else .ok (s'.complete .notBlank)

/-! ### Locking and checking (R142 to R145) -/

/-- LOCK SEGMENT (R142). -/
def State.lockSegment (s : State) (b : BankId) (n : SegmentNo) : Except Declined State :=
  s.storeTests <|
    let s' := s.accept .lockSegment
    if s.locked b n then .ok (s'.complete .ok)
    else .ok ((s'.mapBank b fun k => k.setLock n true).setOp (some (.lockSegment b n)))

/-- CHECK BANK (R144). -/
def State.checkBank (s : State) : Except Declined State :=
  s.storeTests <| .ok ((s.accept .checkBank).setOp (some (.checkBank s.standby)))

/-! ### COMMIT (R154, R155) -/

/-- COMMIT: the readiness test, and the check stage begun (R154, R155). -/
def State.commit (s : State) (expected : Word) : Except Declined State :=
  s.storeTests <|
    let s' := s.accept .commit
    if (s.nv.bank s.standby).ready then .ok (s'.setOp (some (.commit s.standby expected .checking)))
    else .ok (s'.complete .bankNotReady)

/-! ### CLEAR FAULT (R147) -/

/-- CLEAR FAULT: the latch is cleared and ALERT_N follows (R147, R165). -/
def State.clearFault (s : State) : Except Declined State :=
  if s.ts.op.isSome then .error .busy
  else .ok { s with ts := { s.ts with faultLatch := false } }.driveAlert

end Sys2Proof.Machine
end

