-- ==== Sys2Proof/Machine/Tracker.lean ====
section
/-! DEFINITION. The Transaction Tracker: replies from the stations, their shaping by the Return Path,
exhaustion, and the flush (R84 to R101, R103). -/

namespace Sys2Proof.Machine

/-- The upline reply shaped from a station reply (R100, R101): the record's upline key, and the
station's payload without its first strip count characters, or whole for an exception. -/
def Record.shape (r : Record) (f : Frame) : Frame where
  addr := r.upAddr
  dir := true
  exc := f.exc
  fn := r.upFn
  seq := r.upTag
  payload := if f.exc then f.payload else f.payload.drop r.strip

/-- The NO_REPLY exception of an exhausted record, with the number of attempts (R82, R103). -/
def Record.noReply (r : Record) : Frame where
  addr := r.upAddr
  dir := true
  exc := true
  fn := r.upFn
  seq := r.upTag
  payload := (Reason.noReply (r.retransmissions + 1)).payload

/-- The frame DT builds from a record (R20, R78). -/
def Record.downFrame (r : Record) (t : Tag) : Frame where
  addr := r.downAddr
  dir := false
  exc := false
  fn := r.downFn
  seq := BitVec.ofNat 8 t.val
  payload := r.downPayload

/-- A reply that comes from the station and for the function the record was sent to (R86). -/
def Record.accepts (r : Record) (f : Frame) : Bool := f.addr = r.downAddr && f.fn = r.downFn

/-- A matching reply meets the record of its tag in each record state (R86 to R89). -/
def State.acceptReply (s : State) (t : Tag) (r : Record) (f : Frame) : State :=
  match r.state with
  | .held .. => s.count .lateReplies
  | .awaitReply => s.deliver t r (r.shape f) .station
  | .waitLine => (s.withdraw t).deliver t r (r.shape f) .station
  | .sending => s.deliver t r (r.shape f) .stationInSending

/-- A reply names a downline tag (R85, R86). -/
def State.matchReply (s : State) (t : Tag) (f : Frame) : State :=
  match s.tag t with
  | .free => s.count .strayReplies
  | .releasing _ => s.count .lateReplies
  | .quarantine _ => s.count .lateReplies
  | .quiet => s.count .lateReplies
  | .busy r => if r.accepts f then s.acceptReply t r f else s.count .strayReplies

/-- The tracker takes a good downline frame (R84). -/
def State.takeReply (s : State) (f : Frame) : State :=
  if h : f.dir = true ∧ f.seq.toNat < 32 then s.matchReply ⟨f.seq.toNat, h.2⟩ f else s.count .foreign

/-! ### FLUSH TRACKER (R94, R112) -/

/-- Whether a tag is BUSY. -/
def TagState.isBusy : TagState → Bool
  | .busy _ => true
  | _ => false

/-- What a flush makes of a tag: one with a record is RELEASING while DT sends it, otherwise in
QUARANTINE (R94). -/
def TagState.flushed (sending : Bool) : TagState → TagState
  | .busy r => if sending then .releasing r.quarantine else .quarantine r.quarantine
  | x => x

/-- The number of records the tracker holds (R94). -/
def State.openRecords (s : State) : Nat := s.tt.tags.toList.countP TagState.isBusy

/-- FLUSH TRACKER at the tracker and the Return Path (R94, R112). -/
def State.flush (s : State) : State :=
  { s with
    tt := { s.tt with
      tags := Vector.ofFn fun t => (s.tag t).flushed (s.sendingTag t)
      dq := s.tt.dq.filter DqEntry.isUntracked }
    rt := { s.rt with holdList := [] } }

end Sys2Proof.Machine
end

