-- ==== Sys2Proof/Machine/Management.lean ====
section
/-! DEFINITION. The Management Engine: intake of management requests, the replay record, the commands
and their replies (R166 to R185). -/

namespace Sys2Proof.Machine

/-! ### The commands (R172) -/

/-- A management command with its arguments in range. -/
inductive Command where
  | readStatus
  | readCounters
  | readAndClearCounters
  | readEntry (bank : BankId) (slot : SlotNo)
  | readHeader (bank : BankId)
  | readTracker (tag : Tag)
  | readSegments (bank : BankId)
  | stageEntry (slot : SlotNo) (image : List Byte)
  | discardStage
  | programStage
  | programHeader (image : List Byte)
  | eraseSegment (segment : SegmentNo) (flag : Byte)
  | eraseBank (flag : Byte)
  | copySegment (segment : SegmentNo)
  | lockSegment (bank : BankId) (segment : SegmentNo)
  | checkBank
  | commit (expected : Word)
  | clearFault
  | flushTracker
  | restart
deriving DecidableEq, Repr

/-- A bank argument (R172). -/
def bankArg (b : Byte) : Option BankId :=
  if b = 0x00#8 then some .bankA else if b = 0x01#8 then some .bankB else none

/-- A slot argument, high half first (R172). -/
def slotArg (hi lo : Byte) : Option SlotNo :=
  if h : (wordOf hi lo).toNat < 512 then some ⟨(wordOf hi lo).toNat, h⟩ else none

/-- A segment argument (R172). -/
def segmentArg (b : Byte) : Option SegmentNo := if h : b.toNat < 8 then some ⟨b.toNat, h⟩ else none

/-- A tag argument (R172). -/
def tagArg (b : Byte) : Option Tag := if h : b.toNat < 32 then some ⟨b.toNat, h⟩ else none

/-- An argument out of its range is refused BAD_ARGUMENT (R172). -/
def inRange {α : Type} (x : Option α) (f : α → Command) : Except Declined Command :=
  match x with
  | some a => .ok (f a)
  | none => .error .badArgument

/-- A command without payload: any other length is refused BAD_ARGUMENT (R172). -/
def noPayload (c : Command) (payload : List Byte) : Except Declined Command :=
  if payload = [] then .ok c else .error .badArgument

/-- The command of a management request, or the refusal of the Engine's own tests: an unknown function
code, a wrong payload length, an argument out of range (R172). -/
def Command.parse (fn : FunctionCode) (payload : List Byte) : Except Declined Command :=
  match fn.toNat with
  | 0x01 => noPayload .readStatus payload
  | 0x02 => noPayload .readCounters payload
  | 0x03 => noPayload .readAndClearCounters payload
  | 0x04 =>
      match payload with
      | [b, hi, lo] =>
          match bankArg b with
          | some bank => inRange (slotArg hi lo) (.readEntry bank)
          | none => .error .badArgument
      | _ => .error .badArgument
  | 0x05 =>
      match payload with
      | [b] => inRange (bankArg b) .readHeader
      | _ => .error .badArgument
  | 0x06 =>
      match payload with
      | [t] => inRange (tagArg t) .readTracker
      | _ => .error .badArgument
  | 0x07 =>
      match payload with
      | [b] => inRange (bankArg b) .readSegments
      | _ => .error .badArgument
  | 0x10 =>
      match payload with
      | hi :: lo :: image =>
          if image.length = 20 then inRange (slotArg hi lo) (.stageEntry · image) else .error .badArgument
      | _ => .error .badArgument
  | 0x11 => noPayload .discardStage payload
  | 0x12 => noPayload .programStage payload
  | 0x13 => if payload.length = 8 then .ok (.programHeader payload) else .error .badArgument
  | 0x14 =>
      match payload with
      | [n, flag] => inRange (segmentArg n) (.eraseSegment · flag)
      | _ => .error .badArgument
  | 0x15 =>
      match payload with
      | [flag] => .ok (.eraseBank flag)
      | _ => .error .badArgument
  | 0x16 =>
      match payload with
      | [n] => inRange (segmentArg n) .copySegment
      | _ => .error .badArgument
  | 0x17 =>
      match payload with
      | [b, n] =>
          match bankArg b with
          | some bank => inRange (segmentArg n) (.lockSegment bank)
          | none => .error .badArgument
      | _ => .error .badArgument
  | 0x18 => noPayload .checkBank payload
  | 0x19 =>
      match payload with
      | [hi, lo] => .ok (.commit (wordOf hi lo))
      | _ => .error .badArgument
  | 0x1A => noPayload .clearFault payload
  | 0x20 => noPayload .flushTracker payload
  | 0x21 => noPayload .restart payload
  | _ => .error .unknownCommand

/-! ### What the reads report -/

/-- Two characters, high half first. -/
def twoBytes (w : Word) : List Byte := [highHalf w, lowHalf w]

/-- A number of items as one character. -/
def countByte (n : Nat) : Byte := BitVec.ofNat 8 n

/-- The number of tags in a state with this code (R98). -/
def State.tagCount (s : State) (code : Byte) : Byte :=
  countByte (s.tt.tags.toList.countP fun x => x.code = code)

/-- The active header's label, or four 00h with no active bank (R173). -/
def Mode.label : Mode → List Byte
  | .running v => v.header.label.toList
  | _ => [0, 0, 0, 0]

/-- The 30-character status record (R173). -/
def State.statusRecord (s : State) : List Byte :=
  [s.ts.mode.code, (s.ts.mode.active.map bankCode).getD 0xFF]
    ++ twoBytes s.ts.mode.generation ++ [s.mgmtAddr] ++ s.ts.mode.label
    ++ [storeStateCode s.ts.op, s.ts.opNumber, s.ts.lastOp.code, s.ts.lastResult.code,
        flagCode s.ts.faultLatch, flagCode s.ts.lastCheck.isSome]
    ++ twoBytes (s.ts.lastCheck.getD 0)
    ++ [s.ts.staging.pageCode, countByte s.ts.staging.count, flagCode s.pins.keysw]
    ++ [s.tagCount 0x00, s.tagCount 0x01, s.tagCount 0x02, s.tagCount 0x03]
    ++ [countByte (s.tt.dq.countP fun x => !x.isUntracked), countByte (s.tt.dq.countP DqEntry.isUntracked),
        countByte s.rt.uq.length, countByte s.rt.holdList.length]
    ++ [0x00, bankCode s.standby]

/-- The sixteen counters in counter number order (R174). -/
def State.counterPayload (s : State) : List Byte := s.me.counters.toList.flatMap twoBytes

/-- The reply payload of READ ENTRY (R175). -/
def Bank.entryPayload (k : Bank) (n : SlotNo) : List Byte :=
  [(k.slot n).code, (k.segments.get (segmentOf n)).code, flagCode (k.locks.get (segmentOf n))]
    ++ match k.slot n with | .valid e => e.image | _ => []

/-- The reply payload of READ HEADER (R176). -/
def Bank.headerPayload (k : Bank) : List Byte :=
  k.header.code :: match k.header with | .valid h => h.image | _ => []

/-- The reply payload of READ SEGMENTS (R176). -/
def Bank.segmentsPayload (k : Bank) : List Byte :=
  (List.finRange 8).flatMap fun n => [(k.segments.get n).code, flagCode (k.locks.get n)]

/-- Positions 1 and on of READ TRACKER's reply for a BUSY tag (R177). -/
def Record.report (r : Record) : List Byte :=
  [r.state.code, r.upAddr, r.upFn.setWidth 8, r.upTag, r.downAddr, r.downFn.setWidth 8,
    countByte r.retryLimit, countByte r.retransmissions, r.replyTimeout, countByte r.strip, r.quarantine]
    ++ twoBytes r.generation ++ twoBytes (BitVec.ofNat 16 r.slot)
    ++ [countByte r.downPayload.length] ++ r.downPayload.take 15

/-- The reply payload of READ TRACKER (R177). -/
def TagState.payload (x : TagState) : List Byte :=
  x.code :: match x with | .busy r => r.report | _ => []

/-! ### Executing a command -/

/-- A management reply: normal with its payload, or a refusal (R171). -/
inductive Answer where
  | normal (payload : List Byte)
  | refusal (declined : Declined)
deriving DecidableEq, Repr

/-- The frame of a management reply (R171). -/
def Frame.managementReply (f : Frame) : Answer → Frame
  | .normal payload => f.reply false payload
  | .refusal d => f.reply true [d.code]

/-- All sixteen counters set to 0 (R174). -/
def State.clearCounters (s : State) : State :=
  { s with me := { s.me with counters := Vector.replicate 16 0 } }

/-- What the store answers becomes the reply: a refusal, which changes nothing, or a normal reply with
the payload of the state reached (R122, R178, R179, R181). -/
def State.storeReply (s : State) (payload : State → List Byte) (x : Except Declined State) : Answer × State :=
  match x with
  | .ok s' => (.normal (payload s'), s')
  | .error d => (.refusal d, s)

/-- ACCEPTED: the operation number (R171, R179). -/
def State.accepted (s : State) (x : Except Declined State) : Answer × State :=
  s.storeReply (fun s' => [s'.ts.opNumber]) x

/-- RESTART at its intake (R183): refused BUSY, or the Engine waits for the reply made here. -/
def State.requestRestart (s : State) (f : Frame) : Answer × State :=
  if s.ts.op.isSome then (.refusal .busy, s)
  else (.normal [], { s with me := { s.me with
      state := .restartPending (f.managementReply (.normal [])) } })

/-- A command executed for the request `f`: its answer and the state it leaves, before the reply is
recorded and offered (R173 to R183). -/
def Command.run (f : Frame) (s : State) : Command → Answer × State
  | .readStatus => (.normal s.statusRecord, s)
  | .readCounters => (.normal s.counterPayload, s)
  | .readAndClearCounters => (.normal s.counterPayload, s.clearCounters)
  | .readEntry b n => (.normal ((s.eraseProgress.nv.bank b).entryPayload n), s.eraseProgress)
  | .readHeader b => (.normal (s.eraseProgress.nv.bank b).headerPayload, s.eraseProgress)
  | .readTracker t => (.normal (s.tag t).payload, s)
  | .readSegments b => (.normal (s.nv.bank b).segmentsPayload, s)
  | .stageEntry n image =>
      s.storeReply (fun s' => [s'.ts.staging.pageCode, countByte s'.ts.staging.count]) (s.stageEntry n image)
  | .discardStage => s.storeReply (fun _ => [countByte s.ts.staging.count]) s.discardStage
  | .programStage => s.accepted s.programStage
  | .programHeader image => s.accepted (s.programHeader image)
  | .eraseSegment n flag => s.accepted (s.eraseSegment n flag)
  | .eraseBank flag => s.accepted (s.eraseBank flag)
  | .copySegment n => s.accepted (s.copySegment n)
  | .lockSegment b n => s.accepted (s.lockSegment b n)
  | .checkBank => s.accepted s.checkBank
  | .commit expected => s.accepted (s.commit expected)
  | .clearFault => s.storeReply (fun _ => [flagCode s.ts.faultLatch]) s.clearFault
  | .flushTracker => (.normal [countByte s.openRecords], s.flush)
  | .restart => s.requestRestart f

/-- The reply is recorded for replay and offered to the Return Path (R170). -/
def State.conclude (s : State) (q : Received) (a : Answer) : State :=
  let reply := q.frame.managementReply a
  { s with me := { s.me with
      replay := some { tag := q.frame.seq, fn := q.frame.fn, check := q.check, reply } } }.offerManagement reply

/-- A request executed in the event of its intake (R170, R172). -/
def State.execute (s : State) (q : Received) : State :=
  match Command.parse q.frame.fn q.frame.payload with
  | .error d => s.conclude q (.refusal d)
  | .ok c => (c.run q.frame s).2.conclude q (c.run q.frame s).1

/-- A request identical in tag, function code and received check to the last one executed (R169). -/
def Replay.isFor (r : Replay) (q : Received) : Bool :=
  r.tag = q.frame.seq && r.fn = q.frame.fn && r.check = q.check

/-- A request tested against the replay record, and executed if it is no replay (R169, R170). -/
def State.replayOrExecute (s : State) (q : Received) : State :=
  match s.me.replay with
  | some r => if r.isFor q then s.offerManagement r.reply else s.execute q
  | none => s.execute q

/-- The Management Engine takes a request (R167, R168). -/
def State.takeManagement (s : State) (q : Received) : State :=
  match s.me.state with
  | .restartPending _ => s
  | .restartDue => s
  | .ready => if s.me.holder.isSome then s.count .mgmtOverrun else s.replayOrExecute q

end Sys2Proof.Machine
end

