-- ==== Sys2Proof/Machine/Receive.lean ====
section
/-! DEFINITION. The receivers UR and DR: the commands CHARACTER, CHARACTER_ERROR, GAP_TIMER_EXPIRY and
START_BIT (R2, R6 to R15, R17). -/

namespace Sys2Proof.Machine

/-! ### One receiver -/

/-- What an event at a receiver amounts to: nothing, one count, or a good frame to hand on. -/
inductive Arrival where
  | nothing
  | formError
  | checkError
  | good (frame : Received)
deriving DecidableEq, Repr

/-- A complete frame: its check is tested over the bytes before the two check characters (R5, R11). -/
def completeFrame (bytes : List Byte) : Arrival :=
  let body := bytes.take (bytes.length - 2)
  let received := wordOf (bytes.getD (bytes.length - 2) 0) (bytes.getD (bytes.length - 1) 0)
  if crc body = received then .good { frame := Frame.ofBody body, check := received } else .checkError

/-- A lead character starts a new partial frame, with the gap timer started (R7, R9, R12). -/
def startFrame (b : Byte) : Receiver := .collect [b] none true

/-- A non-lead character in COLLECT: appended, the Length tested, the frame complete at its expected
length (R8, R11). -/
def appendCharacter (bytes : List Byte) (expected : Option Nat) (b : Byte) : Receiver × Arrival :=
  let bytes' := bytes ++ [b]
  if bytes'.length = 4 ∧ Config.maxPayload < b.toNat then (.discard, .formError)
  else
    let expected' := if bytes'.length = 4 then some (6 + b.toNat) else expected
    if expected' = some bytes'.length then (.hunt, completeFrame bytes')
    else (.collect bytes' expected' true, .nothing)

/-- A receiver takes a complete character (R7 to R9, R12). -/
def Receiver.takeCharacter (r : Receiver) (b : Byte) (lead : Bool) : Receiver × Arrival :=
  match r with
  | .hunt => if lead then (startFrame b, .nothing) else (.hunt, .formError)
  | .collect bytes expected _ => if lead then (startFrame b, .formError) else appendCharacter bytes expected b
  | .discard => if lead then (startFrame b, .nothing) else (.discard, .nothing)

/-- A receiver takes a character error (R7, R10, R12). -/
def Receiver.takeError : Receiver → Receiver × Arrival
  | .hunt => (.hunt, .formError)
  | .collect .. => (.discard, .formError)
  | .discard => (.discard, .nothing)

/-- A recognised start bit stops the gap timer (R6). -/
def Receiver.startBit : Receiver → Receiver
  | .collect bytes expected _ => .collect bytes expected false
  | r => r

/-- Whether the gap timer runs (R6). -/
def Receiver.gapTimer : Receiver → Bool
  | .collect _ _ running => running
  | _ => false

/-! ### The two receivers in the part -/

/-- The receiver of a line. -/
def State.receiver (s : State) : Line → Receiver
  | .upline => s.ur
  | .downline => s.dr

/-- Put the receiver of a line in a state. -/
def State.setReceiver (s : State) (r : Receiver) : Line → State
  | .upline => { s with ur := r }
  | .downline => { s with dr := r }

/-- The pins UP_RX and DN_RX are taken: the part is powered and RESET_N is high (R15). -/
def State.outOfReset (s : State) : Bool := s.pins.powered && s.pins.resetN

/-- The receivers take what arrives: out of reset, and the mode not STARTING (R15). -/
def State.listening (s : State) : Bool := s.outOfReset && s.ts.mode ≠ .starting

/-- The receiver of a line looks for no start bit, since the pin has not been high for one bit time after
a character error (R2). -/
def State.awaitsHigh (s : State) : Line → Bool
  | .upline => s.urAwaitsHigh
  | .downline => s.drAwaitsHigh

/-- Make the receiver of a line look for a start bit again, or wait for its pin to be high (R2). -/
def State.setAwaitsHigh (s : State) (b : Bool) : Line → State
  | .upline => { s with urAwaitsHigh := b }
  | .downline => { s with drAwaitsHigh := b }

/-- The receiver of the line recognises the start bit: out of reset, and after a character error only once
the pin has been high for one bit time (R2, R15). -/
def State.recognises (s : State) (fall : Fall) : Bool :=
  s.outOfReset && (!s.awaitsHigh fall.line || fall.rested)

/-- The counters of a line (R17). -/
def framesCounter : Line → Counter
  | .upline => .upFrames
  | .downline => .dnFrames

/-- The counter of a line's frames with a bad check (R17). -/
def checkErrorCounter : Line → Counter
  | .upline => .upCheckErr
  | .downline => .dnCheckErr

/-- The counter of a line's form errors (R17). -/
def formErrorCounter : Line → Counter
  | .upline => .upFormErr
  | .downline => .dnFormErr

/-- UR hands a good frame on: to the Management Engine when it is a request addressed to the effective
management address as it stands, and otherwise to the Request Path (R13). -/
def State.handOnUpline (s : State) (q : Received) : State :=
  if q.frame.dir = false ∧ q.frame.exc = false ∧ q.frame.addr = s.mgmtAddr then s.takeManagement q
  else s.takeRequest q.frame

/-- A good frame handed on (R13, R14). -/
def State.handOn (s : State) (q : Received) : Line → State
  | .upline => s.handOnUpline q
  | .downline => s.takeReply q.frame

/-- What an event at a receiver does to the part: the count, and the handing-on of a good frame (R11,
R17). -/
def State.arrive (s : State) (line : Line) : Arrival → State
  | .nothing => s
  | .formError => s.count (formErrorCounter line)
  | .checkError => s.count (checkErrorCounter line)
  | .good q => (s.count (framesCounter line)).handOn q line

/-- An event at the receiver of a line that is listening. -/
def State.receive (s : State) (line : Line) (x : Receiver × Arrival) : State :=
  (s.setReceiver x.1 line).arrive line x.2

/-! ### The commands -/

/-- CHARACTER (R2, R7 to R9, R11 to R15). `keysw` is the level of KEYSW in this event. In reset, and while
the receiver waits for its pin to be high, nothing is taken; in STARTING the character is discarded. -/
def execCharacter (fall : Fall) (byte : Byte) (lead keysw : Bool) (s : State) :
    Host.Outcome State Fault Refusal :=
  let s' := { s with pins := { s.pins with keysw := keysw } }
  .next (if s.recognises fall then
      let t := s'.setAwaitsHigh false fall.line
      if s.listening then t.receive fall.line ((s.receiver fall.line).takeCharacter byte lead) else t
    else s')

/-- CHARACTER_ERROR (R2, R7, R10, R12, R15). The receiver then waits for its pin to be high, so that a
line held low gives one character error and then nothing. -/
def execCharacterError (fall : Fall) (s : State) : Host.Outcome State Fault Refusal :=
  .next (if s.recognises fall then
      let t := s.setAwaitsHigh true fall.line
      if s.listening then t.receive fall.line (s.receiver fall.line).takeError else t
    else s)

/-- GAP_TIMER_EXPIRY (R10): the partial frame is abandoned and the receiver returns to HUNT. -/
def execGapTimerExpiry (line : Line) (s : State) : Host.Outcome State Fault Refusal :=
  if (s.receiver line).gapTimer then .next (s.receive line (.hunt, .formError))
  else .fault .timerNotRunning

/-- START_BIT (R2, R6): recognised, it ends the wait for a high pin, and in COLLECT the gap timer stops;
elsewhere there is none. -/
def execStartBit (fall : Fall) (s : State) : Host.Outcome State Fault Refusal :=
  .next (if s.recognises fall then
      (s.setAwaitsHigh false fall.line).setReceiver (s.receiver fall.line).startBit fall.line
    else s)

end Sys2Proof.Machine
end

