-- ==== Sys2Proof/Machine/StartUp.lean ====
section
/-! DEFINITION. Start-up: the commands START_UP_SCAN and POINTER_SELECTION (R43, R153, R162 to R164). -/

namespace Sys2Proof.Machine

/-! ### The scan (R162) -/

/-- The scan's conversion of an element: PROGRAMMING becomes TORN. -/
def Element.scanned {α : Type} : Element α → Element α
  | .programming => .torn
  | x => x

/-- The scan's conversion of a segment: ERASING becomes ERASE_INCOMPLETE. -/
def SegmentCondition.scanned : SegmentCondition → SegmentCondition
  | .erasing => .eraseIncomplete
  | c => c

/-- A bank after the scan. -/
def Bank.scanned (k : Bank) : Bank :=
  { k with
    header := k.header.scanned
    slots := k.slots.map fun p => (p.1, p.2.scanned)
    segments := Vector.ofFn fun n => (k.segments.get n).scanned }

/-- A bank in which the scan finds a mark to convert. -/
def Bank.marked (k : Bank) : Bool :=
  k.header = .programming || k.slots.any (fun p => p.2 = .programming)
    || (List.finRange 8).any fun n => k.segments.get n = .erasing

/-! ### The newest VALID record (R153) -/

/-- The newest VALID record's cell: the record whose generation is one more than the other's, otherwise
the numerically larger generation, and cell 0 where the two are equal. -/
def Nonvolatile.newest (v : Nonvolatile) : Option CellId :=
  match v.cell0, v.cell1 with
  | .valid r0, .valid r1 =>
      if r0.generation = r1.generation + 1 then some .zero
      else if r1.generation = r0.generation + 1 then some .one
      else if r0.generation < r1.generation then some .one
      else some .zero
  | .valid _, _ => some .zero
  | _, .valid _ => some .one
  | _, _ => none

/-- The VALID cells in the order selection tries them: the newest record's, then the other (R163). -/
def Nonvolatile.candidates (v : Nonvolatile) : List CellId :=
  match v.newest with
  | none => []
  | some c => match v.cell c.other with | .valid _ => [c, c.other] | _ => [c]

/-- The standby bank of a part that starts UNCONFIGURED: the bank the newest VALID record does not name,
or bank A (R43). -/
def Nonvolatile.unconfiguredStandby (v : Nonvolatile) : BankId :=
  match v.newest with
  | none => .bankA
  | some c => match v.cell c with | .valid r => otherBank r.bank | _ => .bankA

/-! ### Selection (R163, R164) -/

/-- Start-up latches a fault: the last operation is START-UP with this result (R162, R163). -/
def State.startUpFault (s : State) (result : LastResult) : State :=
  { s with ts := { s.ts with faultLatch := true, lastOp := .startUp, lastResult := result } }

/-- STARTING ends in a mode: the quiet period begins, and ALERT_N follows (R164, R165). -/
def State.endStarting (s : State) (m : Mode) : State :=
  { s with ts := { s.ts with mode := m, startUp := .idle } }.beginQuiet.driveAlert

/-- Selection takes the next candidate: one whose bank has no VALID header fails at once; for the first
with a VALID header the computation of the bank's check begins; with none left no bank is chosen
(R163). -/
def State.select (s : State) : List CellId → State
  | [] => s.endStarting (.unconfigured s.nv.unconfiguredStandby)
  | c :: rest =>
      match s.nv.cell c with
      | .valid r =>
          match (s.nv.bank r.bank).header with
          | .valid _ => { s with ts := { s.ts with startUp := .verifying c rest } }.driveAlert
          | _ => (s.startUpFault .activeCheckFail).select rest
      | _ => s.select rest

/-- The scan's effect on the banks and, if it converted a mark, on the fault latch (R162). -/
def State.scan (s : State) : State :=
  let s' := { s with nv := { s.nv with bankA := s.nv.bankA.scanned, bankB := s.nv.bankB.scanned } }
  if s.nv.bankA.marked || s.nv.bankB.marked then s'.startUpFault .interrupted else s'

/-- START_UP_SCAN (R162): the scan ends and pointer selection begins. -/
def execStartUpScan (s : State) : Host.Outcome State Fault Refusal :=
  match s.ts.startUp with
  | .scanning => .next (s.scan.select s.nv.candidates)
  | _ => .fault .startUpStageNotInProgress

/-- The candidate's check equals the check its bank has now, and the bank has the header of the table in
service (R163). -/
def State.verified (s : State) (c : CellId) : Option Service :=
  match s.nv.cell c with
  | .valid r =>
      match (s.nv.bank r.bank).header with
      | .valid h =>
          if (s.nv.bank r.bank).check = r.check then
            some { active := r.bank, cell := c, generation := r.generation, header := h }
          else none
      | _ => none
  | _ => none

/-- POINTER_SELECTION (R163, R164): the computation of a candidate's check ends. Equal values choose the
bank and STARTING ends in RUNNING; otherwise ACTIVE_CHECK_FAIL is latched and the other cell is tried. -/
def execPointerSelection (s : State) : Host.Outcome State Fault Refusal :=
  match s.ts.startUp with
  | .verifying c untried =>
      match s.verified c with
      | some v => .next (s.endStarting (.running v))
      | none => .next ((s.startUpFault .activeCheckFail).select untried)
  | _ => .fault .startUpStageNotInProgress

end Sys2Proof.Machine
end

