-- ==== Sys2Proof/Machine/StoreStages.lean ====
section
/-! DEFINITION. The stages of the store operations and their completion: the commands
ELEMENT_WRITE_END, SEGMENT_ERASE_END, HEADER_ERASE_END, LOCK_WRITE_END, CHECK_BANK_COMPLETE,
COMMIT_CHECK_STAGE_END, POINTER_WRITE_START and POINTER_VERIFY (R125 to R158). -/

namespace Sys2Proof.Machine

/-- ELEMENT_WRITE_END (R125): the image read back is compared with the image that was to be written.
Equal, the element is VALID and the operation goes on (R131, R133, R140); different, it is TORN and the
operation completes with VERIFY_FAIL. -/
def execElementWriteEnd (readBack : List Byte) (s : State) : Host.Outcome State Fault Refusal :=
  match s.ts.op with
  | some (.programStage b n e) =>
      .next (if readBack = e.image then
          (s.mapBank b fun k => k.setSlot n (.valid e)).programNext b (s.ts.staging.next (n.val + 1))
        else (s.mapBank b fun k => k.setSlot n .torn).completeStage .verifyFail)
  | some (.programHeader b h) =>
      .next (if readBack = h.image then (s.mapBank b fun k => k.setHeader (.valid h)).complete .ok
        else (s.mapBank b fun k => k.setHeader .torn).complete .verifyFail)
  | some (.copySegment b g n e) =>
      .next (if readBack = e.image then
          (s.mapBank b fun k => k.setSlot n (.valid e)).copyNext b g
            ((s.nv.bank (otherBank b)).nextToCopy g (n.val + 1))
        else (s.mapBank b fun k => k.setSlot n .torn).complete .verifyFail)
  | _ => .fault .storeStageNotInProgress

/-- SEGMENT_ERASE_END (R126): the segment is BLANK and NORMAL, and its lock clear if override was given;
ERASE SEGMENT completes (R136) and ERASE BANK takes the next segment (R137). -/
def execSegmentEraseEnd (s : State) : Host.Outcome State Fault Refusal :=
  match s.ts.op with
  | some (.eraseSegment b n override) =>
      .next ((s.mapBank b fun k => k.segmentErased n override).complete .ok)
  | some (.eraseBank b override (.segment n)) =>
      .next ((s.mapBank b fun k => k.segmentErased n override).eraseNext b override (n.val + 1))
  | _ => .fault .storeStageNotInProgress

/-- HEADER_ERASE_END (R126, R137): the header is BLANK, and the segments are taken in ascending order. -/
def execHeaderEraseEnd (s : State) : Host.Outcome State Fault Refusal :=
  match s.ts.op with
  | some (.eraseBank b override .header) =>
      .next ((s.mapBank b fun k => k.setHeader .blank).eraseNext b override 0)
  | _ => .fault .storeStageNotInProgress

/-- LOCK_WRITE_END (R142). -/
def execLockWriteEnd (s : State) : Host.Outcome State Fault Refusal :=
  match s.ts.op with
  | some (.lockSegment _ _) => .next (s.complete .ok)
  | _ => .fault .storeStageNotInProgress

/-- The last check value becomes present (R144, R156). -/
def State.setLastCheck (s : State) (w : Word) : State := { s with ts := { s.ts with lastCheck := some w } }

/-- CHECK_BANK_COMPLETE (R144). -/
def execCheckBankComplete (s : State) : Host.Outcome State Fault Refusal :=
  match s.ts.op with
  | some (.checkBank b) => .next ((s.setLastCheck (s.nv.bank b).check).complete .ok)
  | _ => .fault .storeStageNotInProgress

/-- The target cell of a commit: the one that does not hold the record in force, and cell 0 with no
record in force (R157). -/
def Mode.targetCell : Mode → CellId
  | .running v => v.cell.other
  | _ => .zero

/-- COMMIT_CHECK_STAGE_END (R156): the computed value becomes the last check value; different from the
expected check it completes the commit with CHECK_MISMATCH, equal to it the target cell is erased (R157,
first event). -/
def execCommitCheckStageEnd (s : State) : Host.Outcome State Fault Refusal :=
  match s.ts.op with
  | some (.commit b expected .checking) =>
      let w := (s.nv.bank b).check
      let s' := s.setLastCheck w
      .next (if w = expected then
          (s'.setCell s.ts.mode.targetCell .blank).setOp (some (.commit b expected (.erased w)))
        else s'.complete .checkMismatch)
  | _ => .fault .storeStageNotInProgress

/-- POINTER_WRITE_START (R157, second event): the cell is WRITING and the new record is written into it,
with the generation after the part's own. -/
def execPointerWriteStart (s : State) : Host.Outcome State Fault Refusal :=
  match s.ts.op with
  | some (.commit b expected (.erased w)) =>
      .next ((s.setCell s.ts.mode.targetCell .writing).setOp
        (some (.commit b expected (.writing
          { bank := b, generation := s.ts.mode.generation + 1, check := w }))))
  | _ => .fault .storeStageNotInProgress

/-- A successful commit (R158): the cell holds its record in force, the standby bank is active under its
own header with the new generation, and the mode is RUNNING. -/
def State.switchTo (s : State) (record : PointerRecord) (h : Header) : State :=
  let c := s.ts.mode.targetCell
  let v : Service :=
    { active := record.bank, cell := c, generation := record.generation, header := h }
  let s' := s.setCell c (.valid record)
  { s' with ts := { s'.ts with mode := .running v } }

/-- POINTER_VERIFY (R157, third event; R158): the record read back is compared with the record that was
to be written. -/
def execPointerVerify (readBack : PointerRecord) (s : State) : Host.Outcome State Fault Refusal :=
  match s.ts.op with
  | some (.commit _ _ (.writing record)) =>
      if readBack = record then
        match (s.nv.bank record.bank).header with
        | .valid h => .next ((s.switchTo record h).complete .ok)
        | _ => .fault .headerNotValid
      else .next (s.complete .verifyFail)
  | _ => .fault .storeStageNotInProgress

end Sys2Proof.Machine
end

