-- ==== Sys2Proof/Machine/Timers.lean ====
section
/-! DEFINITION. The tracker's timers: the commands REPLY_TIMER_EXPIRY, QUARANTINE_EXPIRY and
QUIET_PERIOD_EXPIRY (R71, R74, R81, R82). -/

namespace Sys2Proof.Machine

/-- A retransmission: the count raised, the record in WAIT_LINE, its entry at the tail of the queue
(R81). -/
def State.retransmit (s : State) (t : Tag) (r : Record) : State :=
  ((s.setTag t (.busy { r with state := .waitLine, retransmissions := r.retransmissions + 1 })).enqueueDown
    (.tracked t)).count .retransmissions

/-- An exhausted record: its NO_REPLY exception is counted and delivered (R82, R103). -/
def State.exhaust (s : State) (t : Tag) (r : Record) : State :=
  (s.count .noReply).deliver t r r.noReply .exhausted

/-- REPLY_TIMER_EXPIRY (R81, R82): the timer runs in AWAIT_REPLY alone (R80). -/
def execReplyTimerExpiry (t : Tag) (s : State) : Host.Outcome State Fault Refusal :=
  match s.tag t with
  | .busy r =>
      if r.state = .awaitReply then
        .next (if r.retransmissions < r.retryLimit then s.retransmit t r else s.exhaust t r)
      else .fault .timerNotRunning
  | _ => .fault .timerNotRunning

/-- QUARANTINE_EXPIRY (R71): the tag becomes FREE and joins the tail of the free list. -/
def execQuarantineExpiry (t : Tag) (s : State) : Host.Outcome State Fault Refusal :=
  match s.tag t with
  | .quarantine _ => .next (s.freeTag t)
  | _ => .fault .timerNotRunning

/-- QUIET_PERIOD_EXPIRY (R74): all 32 tags become FREE and join the free list in the order 0 to 31. -/
def execQuietPeriodExpiry (s : State) : Host.Outcome State Fault Refusal :=
  match s.tt.quietTimer with
  | some _ =>
      .next { s with tt := { s.tt with
        tags := Vector.replicate 32 .free, freeList := List.finRange 32, quietTimer := none } }
  | none => .fault .timerNotRunning

end Sys2Proof.Machine
end

