-- ==== Sys2Proof/Machine/Transmit.lean ====
section
/-! DEFINITION. The transmitters UT and DT and the arbiter: the commands UT_TAKE, UPLINE_FRAME_SENT,
DT_TAKE and DOWNLINE_FRAME_SENT (R18 to R23, R78, R79, R93, R108 to R110, R185). -/

namespace Sys2Proof.Machine

/-- A transmitter begins a frame: none of its characters has been sent (R18). -/
def InFlight.start (f : Frame) : InFlight where
  frame := f
  position := 0

/-! ### The upline -/

/-- A held reply moves into the freed place and its record ends (R91, R109, R110). The hold list names
tags in HELD alone (R111); any other is a fault no run from reset meets. -/
def State.moveHeld (s : State) (t : Tag) (rest : List Tag) : Host.Outcome State Fault Refusal :=
  match s.tag t with
  | .busy r =>
      match r.state with
      | .held reply origin =>
          .next (({ s with rt := { s.rt with holdList := rest } }.enqueueUp reply).endRecord t r origin)
      | _ => .fault .recordMissing
  | _ => .fault .recordMissing

/-- The arbiter fills the place UT's taking has freed: from the holder, otherwise from the head of the
hold list, otherwise not (R109). -/
def State.arbitrate (s : State) : Host.Outcome State Fault Refusal :=
  match s.me.holder with
  | some f => .next ({ s with me := { s.me with holder := none } }.enqueueUp f)
  | none =>
      match s.rt.holdList with
      | t :: rest => s.moveHeld t rest
      | [] => .next s

/-- The restart that UT's taking came before (R23): it abandons UT's frame a few bit times after it began,
and UP_TX carries what was sent of it. -/
def State.restartCutsShort (s : State) : State :=
  match s.ut with
  | some x => { s.restart with
      utCut := some { frame := x.frame, bits := Config.cutBits s.draws + 1 }
      draws := s.draws + 1 }
  | none => s.restart

/-- A restart that is due takes place as UT has taken its head: nothing comes between them (R23). -/
def State.settleRestart (s : State) : State :=
  if s.me.state = .restartDue then s.restartCutsShort else s

/-- The same of what a command answers. -/
def settled : Host.Outcome State Fault Refusal → Host.Outcome State Fault Refusal
  | .next s => .next s.settleRestart
  | x => x

/-- UT_TAKE (R19, R108): UT, when IDLE, takes the head of the Upline Transmit Queue, and a restart that is due
then abandons the frame (R23). Finding the queue empty UT stays IDLE (R23). -/
def execUtTake (s : State) : Host.Outcome State Fault Refusal :=
  match s.ut with
  | some _ => .fault .transmitterSending
  | none =>
      settled (match s.rt.uq with
        | [] => .next s
        | f :: rest =>
            { s with ut := some (InFlight.start f), utCut := none, rt := { s.rt with uq := rest } }.arbitrate)

/-- The frame is the reply to RESTART that the Engine waits to see sent (R183, R185). DEDUCED: it is known
by its contents (notes/assumptions/9.md). -/
def State.isRestartReply (s : State) (f : Frame) : Bool :=
  match s.me.state with
  | .restartPending reply => f = reply
  | _ => false

/-- The RESTART reply is reported sent (R185): the restart is taken with the report, unless the Upline
Transmit Queue still holds frames and the claim that the sender offers next is UT's taking of its head. Then
UT is IDLE and the restart is due (R23). With the queue empty UT has nothing to take (R19). -/
def State.restartReported (s : State) : State :=
  if s.pending.head? = some .utTake ∧ s.rt.uq ≠ [] then
    { s with ut := none, me := { s.me with state := .restartDue } }
  else s.restart

/-- UPLINE_FRAME_SENT (R18, R19): UT becomes IDLE, and the report of the pending RESTART reply is the
moment the restart takes place (R185), or is due (R23). -/
def execUplineFrameSent (s : State) : Host.Outcome State Fault Refusal :=
  match s.ut with
  | none => .fault .transmitterIdle
  | some x => .next (if s.isRestartReply x.frame then s.restartReported else { s with ut := none })

/-! ### The downline -/

/-- DT's frame in flight with its current transmission (R18). -/
def DownFlight.start (f : Frame) (current : Current) : DownFlight where
  flight := InFlight.start f
  current := current

/-- DT takes a TRACKED entry: its record passes from WAIT_LINE to SENDING (R20, R78). -/
def State.sendTracked (s : State) (t : Tag) : Host.Outcome State Fault Refusal :=
  match s.tag t with
  | .busy r =>
      .next { s.setTag t (.busy { r with state := .sending }) with
        dt := some (DownFlight.start (r.downFrame t) (.tracked t)) }
  | _ => .fault .recordMissing

/-- DT_TAKE (R20, R78): DT, when IDLE, takes the head of the Downline Transmit Queue. Finding the queue
empty it stays IDLE (R88). -/
def execDtTake (s : State) : Host.Outcome State Fault Refusal :=
  match s.dt with
  | some _ => .fault .transmitterSending
  | none =>
      match s.tt.dq with
      | [] => .next s
      | .tracked t :: rest => { s with tt := { s.tt with dq := rest } }.sendTracked t
      | .untracked f :: rest =>
          .next { s with tt := { s.tt with dq := rest }, dt := some (DownFlight.start f .untracked) }

/-- What DT's report does to the tag it names: a record in SENDING passes to AWAIT_REPLY, a RELEASING
tag to QUARANTINE with its captured time, and nothing else changes (R79, R80, R93). -/
def TagState.reportedSent : TagState → TagState
  | .busy r => .busy (if r.state = .sending then { r with state := .awaitReply } else r)
  | .releasing captured => .quarantine captured
  | x => x

/-- The tracker acts on DT's report (R79). -/
def State.reportSent (s : State) : Current → State
  | .untracked => s
  | .tracked t => s.setTag t (s.tag t).reportedSent

/-- DOWNLINE_FRAME_SENT (R18, R20, R79): DT becomes IDLE with no current transmission, and the tracker
acts on the report. -/
def execDownlineFrameSent (s : State) : Host.Outcome State Fault Refusal :=
  match s.dt with
  | none => .fault .transmitterIdle
  | some d => .next ({ s with dt := none }.reportSent d.current)

/-! ### Time on the lines -/

/-- The level of an idle transmit pin over one character time: high (R1, R22). -/
def restLevels : List Bool := List.replicate Config.characterBits true

/-- The levels that a SENDING transmitter gives its pin over the character time that follows: those of
the next character of its frame, and high after the last (R1, R18). -/
def InFlight.levels (x : InFlight) : List Bool :=
  match x.onLine with
  | some c => c.bits
  | none => restLevels

/-- The levels of UP_TX over a character time in which a restart abandons a frame: the bits of its lead
character that UT sent, and high from then on (R22, R23). -/
def CutFrame.levels (c : CutFrame) : List Bool :=
  (InFlight.start c.frame).levels.take c.bits ++ restLevels.drop c.bits

/-- The levels of UP_TX or DN_TX over the character time that follows, one per bit time: those of the
frame in flight, and high whenever the transmitter is IDLE, as it is after a RESTART and while RESET_N is
low (R1, R22), but for the start of a frame that a restart cut short (R23). -/
def State.transmitLevels (s : State) : Line → List Bool
  | .upline =>
      match s.ut, s.utCut with
      | some x, _ => x.levels
      | none, some c => c.levels
      | none, none => restLevels
  | .downline =>
      match s.dt with
      | some d => d.flight.levels
      | none => restLevels

/-- One character time passes for a transmitter: a SENDING one has sent one character more (R1, R18). -/
def InFlight.advance (x : InFlight) : InFlight :=
  if x.position < x.frame.characters.length then { x with position := x.position + 1 } else x

/-- Each SENDING transmitter has sent one character more, and the line carries nothing more of a frame cut
short (R1, R18, R22). -/
def State.sendCharacters (s : State) : State :=
  { s with
    ut := s.ut.map InFlight.advance
    utCut := none
    dt := s.dt.map fun d => { d with flight := d.flight.advance } }

/-- One character time passes with no command waiting: the model's tick (notes/assumptions/2.md). A restart
that is due takes place in it, UT's taking being no longer offered (R23, notes/assumptions/9.md). -/
def State.tick (s : State) : State := if s.me.state = .restartDue then s.restart else s.sendCharacters

end Sys2Proof.Machine
end

