-- ==== Sys2Proof/Machine/Dispatch.lean ====
section
/-! DEFINITION. `exec`: one arm per command, each a direct call of its meaning. -/

namespace Sys2Proof.Machine

/-- The effect of a command on everything but the queue of waiting commands. -/
def exec (i : Instr) (s : State) : Host.Outcome State Fault Refusal :=
  match i with
  | .powerOn rate madr => Sys2Proof.Machine.execPowerOn rate madr s
  | .powerFail => Sys2Proof.Machine.execPowerFail s
  | .resetNFall => Sys2Proof.Machine.execResetNFall s
  | .resetNRelease rate madr => Sys2Proof.Machine.execResetNRelease rate madr s
  | .startUpScan => Sys2Proof.Machine.execStartUpScan s
  | .pointerSelection => Sys2Proof.Machine.execPointerSelection s
  | .character fall byte lead keysw => Sys2Proof.Machine.execCharacter fall byte lead keysw s
  | .characterError fall => Sys2Proof.Machine.execCharacterError fall s
  | .gapTimerExpiry line => Sys2Proof.Machine.execGapTimerExpiry line s
  | .utTake => Sys2Proof.Machine.execUtTake s
  | .uplineFrameSent => Sys2Proof.Machine.execUplineFrameSent s
  | .dtTake => Sys2Proof.Machine.execDtTake s
  | .downlineFrameSent => Sys2Proof.Machine.execDownlineFrameSent s
  | .replyTimerExpiry tag => Sys2Proof.Machine.execReplyTimerExpiry tag s
  | .quarantineExpiry tag => Sys2Proof.Machine.execQuarantineExpiry tag s
  | .quietPeriodExpiry => Sys2Proof.Machine.execQuietPeriodExpiry s
  | .elementWriteEnd readBack => Sys2Proof.Machine.execElementWriteEnd readBack s
  | .segmentEraseEnd => Sys2Proof.Machine.execSegmentEraseEnd s
  | .headerEraseEnd => Sys2Proof.Machine.execHeaderEraseEnd s
  | .lockWriteEnd => Sys2Proof.Machine.execLockWriteEnd s
  | .checkBankComplete => Sys2Proof.Machine.execCheckBankComplete s
  | .commitCheckStageEnd => Sys2Proof.Machine.execCommitCheckStageEnd s
  | .pointerWriteStart => Sys2Proof.Machine.execPointerWriteStart s
  | .pointerVerify readBack => Sys2Proof.Machine.execPointerVerify readBack s
  | .startBit fall => Sys2Proof.Machine.execStartBit fall s

end Sys2Proof.Machine
end

