-- ==== Sys2Proof/Safety.lean ====
section
/-! DEFINITION. The laws of the part's state that the manual states in its prose, each as a predicate,
and the invariant `State.Inv` that gathers them. The part stops for nothing, so a run is safe when every
state of it keeps these laws. -/

namespace Sys2Proof.Machine

/-! ### The queues and lists -/

/-- The Upline Transmit Queue holds at most 16 frames, and whenever it holds fewer, the hold list and the
management holder are empty (R105). -/
def State.UpQueueLaw (s : State) : Prop :=
  s.rt.uq.length ≤ 16 ∧ (s.rt.uq.length < 16 → s.rt.holdList = [] ∧ s.me.holder = none)

/-- Every frame of the Upline Transmit Queue is a reply (R19, R104). -/
def State.UpRepliesLaw (s : State) : Prop :=
  (∀ f ∈ s.rt.uq, f.dir = true) ∧ (∀ f ∈ s.me.holder, f.dir = true)
    ∧ (∀ x ∈ s.ut, x.frame.dir = true) ∧ (∀ p ∈ s.me.replay, p.reply.dir = true)
    ∧ ∀ t r reply origin, s.tag t = .busy r → r.state = .held reply origin → reply.dir = true

/-- The free list holds each FREE tag exactly once and nothing else (R70). -/
def State.FreeListLaw (s : State) : Prop :=
  s.tt.freeList.Nodup ∧ ∀ t, t ∈ s.tt.freeList ↔ s.tag t = .free

/-- The tag's record is in HELD. -/
def TagState.isHeld : TagState → Bool
  | .busy r => match r.state with | .held .. => true | _ => false
  | _ => false

/-- The hold list holds exactly the tags whose records are in HELD, each once (R111). -/
def State.HoldListLaw (s : State) : Prop :=
  s.rt.holdList.Nodup ∧ ∀ t, t ∈ s.rt.holdList ↔ (s.tag t).isHeld = true

/-- The tag's record is in WAIT_LINE. -/
def TagState.isWaiting : TagState → Bool
  | .busy r => r.state = .waitLine
  | _ => false

/-- The Downline Transmit Queue holds the tags whose records are in WAIT_LINE and no other, each once,
and at most 16 UNTRACKED entries (R77). -/
def State.DownQueueLaw (s : State) : Prop :=
  (s.tt.dq.filter fun x => !x.isUntracked).Nodup
    ∧ (∀ t, DqEntry.tracked t ∈ s.tt.dq ↔ (s.tag t).isWaiting = true)
    ∧ s.tt.dq.countP DqEntry.isUntracked ≤ 16

/-! ### Tags and records -/

/-- The tag may be DT's current transmission: its record is in SENDING, or in HELD by a reply accepted
in SENDING, or it is RELEASING (R69, R76, R79). -/
def TagState.maySend : TagState → Bool
  | .busy r => match r.state with | .sending => true | .held _ o => o = .stationInSending | _ => false
  | .releasing _ => true
  | _ => false

/-- The tag waits for DT's report: its record is in SENDING, or it is RELEASING (R69, R76). -/
def TagState.awaitsReport : TagState → Bool
  | .busy r => r.state = .sending
  | .releasing _ => true
  | _ => false

/-- DT's current transmission and the tags agree (R69, R76, R79). -/
def State.TransmissionLaw (s : State) : Prop :=
  ∀ t, (s.sendingTag t = true → (s.tag t).maySend = true)
    ∧ ((s.tag t).awaitsReport = true → s.sendingTag t = true)

/-- The upline key of a record. -/
def Record.key (r : Record) : Byte × FunctionCode × Byte := (r.upAddr, r.upFn, r.upTag)

/-- No two records have the same upline key (R75). -/
def State.KeyLaw (s : State) : Prop :=
  ∀ t t' r r', s.tag t = .busy r → s.tag t' = .busy r' → r.key = r'.key → t = t'

/-- The ranges of a record's fields (R75). -/
structure Record.InRange (r : Record) : Prop where
  upAddr : 1#8 ≤ r.upAddr ∧ r.upAddr ≤ 0xEF#8
  downAddr : 1#8 ≤ r.downAddr ∧ r.downAddr ≤ 0xEF#8
  payload : r.downPayload.length ≤ 32
  strip : r.strip ≤ 4
  replyTimeout : r.replyTimeout ≠ 0
  retryLimit : r.retryLimit ≤ 3
  retransmissions : r.retransmissions ≤ r.retryLimit
  quarantine : r.quarantine ≠ 0
  slot : r.slot < 512

/-- Every record is in its ranges (R75). -/
def State.RecordLaw (s : State) : Prop := ∀ t r, s.tag t = .busy r → r.InRange

/-- Captured quarantine times are 10 to 2550 ms (R69). -/
def State.CapturedLaw (s : State) : Prop :=
  ∀ t, s.tag t ≠ .releasing 0 ∧ s.tag t ≠ .quarantine 0

/-- The quiet period governs all 32 tags or none; while its timer runs it governs all, and the free list
is empty (R73). -/
def State.QuietLaw (s : State) : Prop :=
  ((∃ t, s.tag t = .quiet) → ∀ t, s.tag t = .quiet)
    ∧ (s.tt.quietTimer.isSome = true → (∀ t, s.tag t = .quiet) ∧ s.tt.freeList = [])

/-! ### The receivers -/

/-- A partial frame has at least its lead character and fewer than its expected length, which is known
from the fourth character on and runs from 6 to 38 (R6). -/
def Receiver.InRange : Receiver → Prop
  | .collect bytes expected _ =>
      1 ≤ bytes.length ∧ (expected = none ↔ bytes.length < 4)
        ∧ ∀ n ∈ expected, bytes.length < n ∧ 6 ≤ n ∧ n ≤ 38
  | _ => True

/-- Both receivers are in range (R6), and one that waits for its pin to be high holds no partial frame,
since the character error it waits after abandoned it (R2, R10). -/
def State.ReceiverLaw (s : State) : Prop :=
  (s.ur.InRange ∧ s.dr.InRange)
    ∧ ∀ line, s.awaitsHigh line = true → s.receiver line = .hunt ∨ s.receiver line = .discard

/-! ### The Table Store -/

/-- A bank in canonical form whose VALID elements hold legal images (R35, R36). -/
structure Bank.Sound (k : Bank) : Prop where
  canonical : SlotMap.Wf k.slots
  entries : ∀ n e, k.slot n = .valid e → e.legal = true
  header : ∀ h, k.header = .valid h → h.legal = true

/-- Both banks are sound (R35, R36). -/
def State.BankLaw (s : State) : Prop := ∀ b, (s.nv.bank b).Sound

/-- The staging buffer is not a page without entries, and its entries are legal (R127, R128). -/
def Staging.Sound : Staging → Prop
  | .empty => True
  | .page _ entries =>
      (∃ i, (entries.get i).isSome = true) ∧ ∀ i e, entries.get i = some e → e.legal = true

/-- The staging buffer is sound (R127). -/
def State.StagingLaw (s : State) : Prop := s.ts.staging.Sound

/-- In RUNNING the header in force is the VALID header of the active bank, and the record in force names
that bank and the generation the part reports (R37, R42, R45, R153). -/
def State.ServiceLaw (s : State) : Prop :=
  ∀ v, s.ts.mode = .running v →
    (s.nv.bank v.active).header = .valid v.header
      ∧ ∃ w, s.nv.cell v.cell = .valid { bank := v.active, generation := v.generation, check := w }

/-- The bank that an operation writes, or computes a check over. LOCK SEGMENT may name either bank. -/
def StoreOp.target : StoreOp → Option BankId
  | .programStage b _ _ => some b
  | .programHeader b _ => some b
  | .eraseSegment b _ _ => some b
  | .eraseBank b _ _ => some b
  | .copySegment b _ _ _ => some b
  | .lockSegment _ _ => none
  | .checkBank b => some b
  | .commit b _ _ => some b

/-- What an operation in flight has to rely on: the image it writes is legal, the slot it copies lies in
its segment, and the record it writes names its bank with the next generation (R119, R125, R157). -/
def StoreOp.Sound (m : Mode) : StoreOp → Prop
  | .programStage _ _ e => e.legal = true
  | .programHeader _ h => h.legal = true
  | .copySegment _ g n e => e.legal = true ∧ segmentOf n = g
  | .commit b _ (.writing r) => r.bank = b ∧ r.generation = m.generation + 1
  | _ => True

/-- An operation in flight: the fault latch is clear (R120), the mode is not STARTING, and the bank it
writes is the standby bank (R123). -/
def State.OperationLaw (s : State) : Prop :=
  ∀ op, s.ts.op = some op →
    s.ts.faultLatch = false ∧ s.ts.mode ≠ .starting ∧ op.Sound s.ts.mode
      ∧ ∀ b ∈ op.target, b = s.ts.mode.standby

/-- While a commit is past its readiness test, the bank it examines stays ready (R155, R156). -/
def State.CommitLaw (s : State) : Prop :=
  ∀ b w stage, s.ts.op = some (.commit b w stage) → (s.nv.bank b).ready = true

/-- An element being written: the slot or header of the write in flight, and no other. -/
def StoreOp.writes (b : BankId) (n : SlotNo) : StoreOp → Bool
  | .programStage b' n' _ => b' = b && n' = n
  | .copySegment b' _ n' _ => b' = b && n' = n
  | _ => false

/-- The header write in flight. -/
def StoreOp.writesHeader (b : BankId) : StoreOp → Bool
  | .programHeader b' _ => b' = b
  | _ => false

/-- The segment being erased. -/
def StoreOp.erases (b : BankId) (n : SegmentNo) : StoreOp → Bool
  | .eraseSegment b' n' _ => b' = b && n' = n
  | .eraseBank b' _ (.segment n') => b' = b && n' = n
  | _ => false

/-- Out of reset, once the start-up scan has ended, an element is PROGRAMMING, and a segment ERASING,
exactly while an operation writes or erases it (R25, R26, R28). -/
def State.MarkLaw (s : State) : Prop :=
  s.outOfReset = true → s.ts.startUp ≠ .scanning →
    (∀ b n, (s.nv.bank b).slot n = .programming ↔ ∃ op ∈ s.ts.op, op.writes b n = true)
      ∧ (∀ b, (s.nv.bank b).header = .programming ↔ ∃ op ∈ s.ts.op, op.writesHeader b = true)
      ∧ ∀ b n, (s.nv.bank b).segments.get n = .erasing ↔ ∃ op ∈ s.ts.op, op.erases b n = true

/-- The write or the erase in flight keeps off the locked segments, unless it is an override erase, and a
PROGRAM STAGE writes in the staged page (R127, R143). -/
def StoreOp.SparesLocks (s : State) : StoreOp → Prop
  | .programStage b n _ =>
      s.locked b (segmentOf n) = false ∧ ∃ p entries, s.ts.staging = .page p entries ∧ pageOf n = p
  | .copySegment b g _ _ => s.locked b g = false
  | .eraseSegment b n override => override = true ∨ s.locked b n = false
  | .eraseBank b override (.segment n) => override = true ∨ s.locked b n = false
  | _ => True

/-- No write is made in a locked segment, and none of its slots is PROGRAMMING (R143). -/
def State.LockLaw (s : State) : Prop :=
  (∀ op, s.ts.op = some op → op.SparesLocks s)
    ∧ ∀ b k, s.locked b (segmentOf k) = true → (s.nv.bank b).slot k ≠ .programming

/-- The slots that the operation in flight has yet to write are BLANK (R131, R140, R143). -/
def StoreOp.BlankAhead (s : State) : StoreOp → Prop
  | .programStage b n _ =>
      ∀ k e, s.ts.staging.next k = some e → n < e.1 → (s.nv.bank b).slot e.1 = .blank
  | .copySegment b g n _ => ∀ k, segmentOf k = g → n < k → (s.nv.bank b).slot k = .blank
  | _ => True

/-- Every element write is made into a BLANK slot (R143). -/
def State.BlankAheadLaw (s : State) : Prop := ∀ op, s.ts.op = some op → op.BlankAhead s

/-! ### Power, reset and start-up -/

/-- What is true throughout STARTING and in reset: nothing is taken, sent, tracked, queued or counted
(R15, R22, R96, R114, R166, R186). -/
structure State.Quiescent (s : State) : Prop where
  receivers : s.ur = .hunt ∧ s.dr = .hunt
  transmitters : s.ut = none ∧ s.utCut = none ∧ s.dt = none
  tracker : s.tt = .powerOn
  returnPath : s.rt = .empty
  engine : s.me = .powerOn

/-- In reset and without power the part is quiescent and the store status has its power-on values (R161);
in STARTING it is quiescent, with a stage of start-up in progress and no store operation. -/
def State.ResetLaw (s : State) : Prop :=
  (s.outOfReset = false → s.Quiescent ∧ s.ts = .powerOn ∧ s.urAwaitsHigh = false ∧ s.drAwaitsHigh = false)
    ∧ (s.ts.mode = .starting → s.Quiescent ∧ s.ts.op = none ∧ s.ts.staging = .empty ∧ s.ts.lastCheck = none)
    ∧ (s.outOfReset = true → (s.ts.mode = .starting ↔ s.ts.startUp ≠ .idle))

/-- ALERT_N is at the level the mode and the fault latch give it (R165). -/
def State.AlertLaw (s : State) : Prop := s.pins.alert = s.alertLevel

/-! ### The invariant -/

/-- The laws of the Transaction Tracker and of what must agree with it (R69 to R79, R96, R111). -/
structure State.TrackerInv (s : State) : Prop where
  reset : s.ResetLaw
  freeList : s.FreeListLaw
  holdList : s.HoldListLaw
  downQueue : s.DownQueueLaw
  transmission : s.TransmissionLaw
  keys : s.KeyLaw
  quietPeriod : s.QuietLaw

/-- The laws of the Table Store (R25 to R28, R35, R36, R42, R119 to R127, R143, R153, R155). -/
structure State.StoreInv (s : State) : Prop where
  reset : s.ResetLaw
  banks : s.BankLaw
  staging : s.StagingLaw
  service : s.ServiceLaw
  operation : s.OperationLaw
  commit : s.CommitLaw
  marks : s.MarkLaw
  locks : s.LockLaw
  blankAhead : s.BlankAheadLaw

/-- The laws of the part together. -/
structure State.Inv (s : State) : Prop where
  tracker : s.TrackerInv
  store : s.StoreInv
  upQueue : s.UpQueueLaw
  upReplies : s.UpRepliesLaw
  records : s.RecordLaw
  captured : s.CapturedLaw
  receivers : s.ReceiverLaw
  alert : s.AlertLaw

/-! ### Whole frames, as the statements about them speak of them -/

/-- KEYSW at a level: the one that the CHARACTER carries (notes/assumptions/6.md). -/
def State.withKey (s : State) (level : Bool) : State := { s with pins := { s.pins with keysw := level } }

/-- The CHARACTER that ends a frame: the low half of its check (R4). -/
def Frame.lastCharacter (f : Frame) (line : Line) (keysw rested : Bool) : Instr :=
  .character ⟨line, rested⟩ (lowHalf f.check) false keysw

/-- A frame with the check that came with it, which is its own (R11). -/
def Frame.whole (f : Frame) : Received := { frame := f, check := f.check }

/-- The part listens, and the receiver of the line holds the frame but for its last character (R6, R8). A
receiver in COLLECT never waits for its pin to be high (`State.ReceiverLaw`). -/
structure State.Completes (s : State) (line : Line) (f : Frame) : Prop where
  listening : s.listening = true
  attentive : s.awaitsHigh line = false
  payload : f.payload.length ≤ 32
  partialFrame : ∃ running,
    s.receiver line = .collect (f.body ++ [highHalf f.check]) (some (f.payload.length + 6)) running

/-- The part as a good frame leaves its receiver: back in HUNT, the frame counted (R11). -/
def State.afterFrame (s : State) (line : Line) (keysw : Bool) : State :=
  (((s.withKey keysw).setAwaitsHigh false line).setReceiver .hunt line).count (framesCounter line)

/-- CHARACTER events one after another, to the first that does not answer a next state. -/
def State.takeCharacters (s : State) (line : Line) (keysw rested : Bool) :
    List Character → Host.Outcome State Fault Refusal
  | [] => .next s
  | c :: cs =>
      match exec (.character ⟨line, rested⟩ c.byte c.lead keysw) s with
      | .next t => t.takeCharacters line keysw rested cs
      | .fault r => .fault r
      | .refused r => .refused r

/-- The frame that completes on the upline is a station request taken in RUNNING (R47, R49). -/
structure State.TakesStationRequest (s : State) (v : Service) (f : Frame) : Prop where
  completes : s.Completes .upline f
  running : s.ts.mode = .running v
  plain : f.dir = false ∧ f.exc = false
  station : 1#8 ≤ f.addr ∧ f.addr ≤ 0xEF#8
  unmanaged : f.addr ≠ v.header.mgmtAddr

/-- No record has the upline key of the request (R51). -/
def State.Fresh (s : State) (f : Frame) : Prop :=
  ∀ t r, s.tag t = .busy r → ¬ (r.upAddr = f.addr ∧ r.upFn = f.fn ∧ r.upTag = f.seq)

/-- A reply of the part's own to a request, under the request's own key (R66, R171). -/
def Frame.ownReply (f : Frame) (exc : Bool) (payload : List Byte) : Frame :=
  { addr := f.addr, dir := true, exc := exc, fn := f.fn, seq := f.seq, payload := payload }

/-- The frame that completes on the downline is a reply that names a tag (R84). -/
structure State.TakesReply (s : State) (t : Tag) (f : Frame) : Prop where
  completes : s.Completes .downline f
  reply : f.dir = true
  tag : f.seq = BitVec.ofNat 8 t.val

/-- The upline reply shaped from a station reply (R100, R101). -/
def Record.upReply (r : Record) (f : Frame) : Frame :=
  { addr := r.upAddr, dir := true, exc := f.exc, fn := r.upFn, seq := r.upTag,
    payload := if f.exc then f.payload else f.payload.drop r.strip }

/-- The release of a record's tag at its end (R92). `clean` says that one attempt was made and a station
reply, not accepted in SENDING, answered it. -/
def State.release (s : State) (t : Tag) (quarantine : Byte) (clean : Bool) : State :=
  if s.sendingTag t then s.setTag t (.releasing quarantine)
  else if clean then s.freeTag t
  else s.setTag t (.quarantine quarantine)

/-- The frame that completes on the upline is a management request that the Engine executes: READY, the
holder empty, and no replay of the last request executed (R13, R167 to R170). -/
structure State.Executes (s : State) (f : Frame) : Prop where
  completes : s.Completes .upline f
  plain : f.dir = false ∧ f.exc = false
  address : f.addr = s.mgmtAddr
  ready : s.me.state = .ready
  holder : s.me.holder = none
  noReplay : ∀ r, s.me.replay = some r → ¬ (r.tag = f.seq ∧ r.fn = f.fn ∧ r.check = f.check)

/-- The reply to a management request is recorded for replay and offered to the Return Path: into the
Upline Transmit Queue with room, and into the holder without (R106, R170, R171). -/
def State.answered (s : State) (f : Frame) (exc : Bool) (payload : List Byte) : State :=
  let reply := f.ownReply exc payload
  let s' := { s with me := { s.me with
    replay := some { tag := f.seq, fn := f.fn, check := f.check, reply := reply } } }
  if s.rt.uq.length < 16 then { s' with rt := { s'.rt with uq := s'.rt.uq ++ [reply] } }
  else { s' with me := { s'.me with holder := some reply } }

/-- The number of payload characters of a command's request, by the table of the commands (R172); none
for a code that is not listed. -/
def commandLength (fn : FunctionCode) : Option Nat :=
  match fn.toNat with
  | 0x01 | 0x02 | 0x03 | 0x11 | 0x12 | 0x18 | 0x1A | 0x20 | 0x21 => some 0
  | 0x05 | 0x06 | 0x07 | 0x15 | 0x16 => some 1
  | 0x14 | 0x17 | 0x19 => some 2
  | 0x04 => some 3
  | 0x13 => some 8
  | 0x10 => some 22
  | _ => none

end Sys2Proof.Machine
end

