-- ==== Sys2Proof/Certificates/Slice0/Obligations.lean ====
section
/-! DEFINITION. The statements for the provers, each `def Obligations.<Name> : Prop`. A statement of the
form `exec c s = .next t` says both that the command completes and what every field of the state is
afterwards: what `t` does not name is as in `s`. -/

open Sys2Proof Sys2Proof.Machine

/-! ### Steps and the queue of commands -/

/-- A step takes the command at the front of the queue and executes it with the queue's rest. -/
def Obligations.StepRunsFrontCommand : Prop :=
  ∀ (c : Instr) (s : State), step { s with pending := c :: s.pending } = exec c s

/-- With no command waiting a step lets one character time pass: each SENDING transmitter has sent one
character more, up to the last of its frame, the line carries nothing more of a frame cut short, and nothing
else changes; and a restart that is due takes place (R23). That an empty queue stands for time is the model's
choice (assumption 2), and that a restart which is due takes place in it (assumption 9). The levels of the
transmit pins over the character time that follows are those of the next character of the frame in flight,
and high after its last, and with the transmitter IDLE (R1, R22), where UP_TX carries first the bits that UT
sent of a frame that a restart cut short (R23). -/
def Obligations.EmptyQueuePassesOneCharacterTime : Prop :=
  (∀ s : State, s.pending = [] →
      let later (x : InFlight) : InFlight :=
        { x with position := if x.position < x.frame.payload.length + 6 then x.position + 1 else x.position }
      (s.me.state ≠ .restartDue → step s = .next { s with
          ut := s.ut.map later
          utCut := none
          dt := s.dt.map fun d => { d with flight := later d.flight } })
        ∧ (s.me.state = .restartDue → step s = .next s.restart))
    ∧ ∀ s : State,
        let rest : List Bool := List.replicate 11 true
        let levels (x : InFlight) : List Bool :=
          match x.frame.characters[x.position]? with | some c => c.bits | none => rest
        (s.ut = none → s.utCut = none → s.transmitLevels .upline = rest)
          ∧ (∀ c, s.ut = none → s.utCut = some c → s.transmitLevels .upline
              = (levels { frame := c.frame, position := 0 }).take c.bits ++ List.replicate (11 - c.bits) true)
          ∧ (s.dt = none → s.transmitLevels .downline = rest)
          ∧ (∀ x, s.ut = some x → s.transmitLevels .upline = levels x)
          ∧ ∀ d, s.dt = some d → s.transmitLevels .downline = levels d.flight

/-- No command touches the queue of the commands that wait behind it. -/
def Obligations.CommandsLeaveTheQueueAlone : Prop :=
  ∀ (c : Instr) (s t : State), exec c s = .next t → t.pending = s.pending

/-! ### Power, reset and start-up -/

/-- What the part is right after reset: STARTING with the scan begun, everything volatile at its power-on
value and ALERT_N asserted; and POWER_ON of a part that was never programmed reaches it. The straps at 00,
KEYSW low and a new part's memory are the model's choice (assumptions 3 and 4), and so is that no receiver
waits for a high pin (assumption 12). -/
def Obligations.ResetIsANewPartPoweredUp : Prop :=
  let s := State.reset
  (s.ts.mode = .starting ∧ s.ts.startUp = .scanning ∧ s.pins.alert = true
    ∧ s.ur = .hunt ∧ s.dr = .hunt ∧ s.urAwaitsHigh = false ∧ s.drAwaitsHigh = false
    ∧ s.ut = none ∧ s.utCut = none ∧ s.dt = none
    ∧ (∀ t, s.tag t = .quiet) ∧ s.tt.freeList = [] ∧ s.tt.dq = [] ∧ s.tt.quietTimer = none
    ∧ s.rt.uq = [] ∧ s.rt.holdList = []
    ∧ s.me.state = .ready ∧ s.me.replay = none ∧ s.me.holder = none ∧ (∀ c, s.counter c = 0)
    ∧ s.ts.op = none ∧ s.ts.opNumber = 0 ∧ s.ts.lastOp = .none ∧ s.ts.lastResult = .ok
    ∧ s.ts.faultLatch = false ∧ s.ts.lastCheck = none ∧ s.ts.staging = .empty)
    ∧ exec (.powerOn 0 0) { s with
        pins := { s.pins with powered := false, alert := false }
        ts := { s.ts with startUp := .idle } } = .next s

/-- The two power events and the two edges of RESET_N: what each makes of the part (R149, R161). An erase in
flight is the subject of `InterruptionKeepsTheBanks`, so none is here. The model's choices: an event that
cannot occur (power to a powered part, its loss by an unpowered one, an edge to the level RESET_N has) is a
named fault (assumption 10), an edge of RESET_N at an unpowered part changes the pin alone, its ALERT_N
released (assumption 5), and no receiver waits for a high pin after power-on or an edge of RESET_N
(assumption 12). -/
def Obligations.PowerAndResetEvents : Prop :=
  ∀ (s : State) (rate madr : BitVec 2),
    let held (p : Pins) : State :=
      { pins := p, straps := { rate := 0, madr := 0 }, ur := .hunt, dr := .hunt
        urAwaitsHigh := false, drAwaitsHigh := false, ut := none, utCut := none, dt := none
        tt := .powerOn, rt := .empty, me := .powerOn, nv := s.nv, ts := .powerOn
        draws := s.draws, pending := s.pending }
    let begun (p : Pins) : State :=
      { held p with
        straps := { rate := rate, madr := madr }
        ts := { Store.powerOn with startUp := .scanning } }
    let p := s.pins
    (p.powered = true → exec (.powerOn rate madr) s = .fault .alreadyPowered)
      ∧ (p.powered = false → p.resetN = true →
          exec (.powerOn rate madr) s = .next (begun { p with powered := true, alert := true }))
      ∧ (p.powered = false → p.resetN = false →
          exec (.powerOn rate madr) s = .next (held { p with powered := true, alert := true }))
      ∧ (p.powered = false → exec .powerFail s = .fault .notPowered)
      ∧ (p.powered = true → s.ts.op.bind StoreOp.erasing = none →
          exec .powerFail s = .next (held { p with powered := false, alert := false }))
      ∧ (p.resetN = false → exec .resetNFall s = .fault .resetAlreadyLow)
      ∧ (p.resetN = true → p.powered = true → s.ts.op.bind StoreOp.erasing = none →
          exec .resetNFall s = .next (held { p with resetN := false, alert := true }))
      ∧ (p.resetN = true → p.powered = false →
          exec .resetNFall s = .next { s with pins := { p with resetN := false, alert := false } })
      ∧ (p.resetN = true → exec (.resetNRelease rate madr) s = .fault .resetAlreadyHigh)
      ∧ (p.resetN = false → p.powered = true →
          exec (.resetNRelease rate madr) s = .next (begun { p with resetN := true, alert := true }))
      ∧ (p.resetN = false → p.powered = false →
          exec (.resetNRelease rate madr) s = .next { s with pins := { p with resetN := true, alert := false } })

/-- What power events and the edges of RESET_N leave in the nonvolatile memory (R28, R149, R150): the
pointer cells, the segment conditions and the locks as they were; of an element being erased what it held
or BLANK; every other element as it was. POWER_FAIL and RESET_N_FALL complete whatever is in flight. -/
def Obligations.InterruptionKeepsTheBanks : Prop :=
  (∀ (s t : State) (c : Instr) (b : BankId),
      (c = .powerFail ∨ c = .resetNFall ∨ (∃ r m, c = .powerOn r m) ∨ ∃ r m, c = .resetNRelease r m) →
      exec c s = .next t →
      t.nv.cell0 = s.nv.cell0 ∧ t.nv.cell1 = s.nv.cell1
        ∧ (t.nv.bank b).segments = (s.nv.bank b).segments ∧ (t.nv.bank b).locks = (s.nv.bank b).locks
        ∧ ((t.nv.bank b).header = (s.nv.bank b).header
            ∨ ((t.nv.bank b).header = .blank ∧ s.ts.op.bind StoreOp.erasing = some (b, none)))
        ∧ ∀ k, (t.nv.bank b).slot k = (s.nv.bank b).slot k
            ∨ ((t.nv.bank b).slot k = .blank ∧ s.ts.op.bind StoreOp.erasing = some (b, some (segmentOf k))))
    ∧ ∀ s : State, (s.pins.powered = true → ∃ t, exec .powerFail s = .next t)
        ∧ (s.pins.resetN = true → ∃ t, exec .resetNFall s = .next t)

/-- The end of the start-up scan (R162, R163): it always completes while the scan runs; PROGRAMMING becomes
TORN and ERASING becomes ERASE_INCOMPLETE and nothing else of the memory changes. A mark found latches
INTERRUPTED. With no VALID cell the part goes UNCONFIGURED with bank A standby and a quiet period of 50 ms.
With a newest VALID record whose bank has a VALID header, the check of that bank is being computed next,
with the other VALID cell still to try; one whose bank has none fails at once with ACTIVE_CHECK_FAIL, which
replaces INTERRUPTED, and the other cell is tried in the same way. That the event is a named fault where no
scan runs is the model's choice (assumption 10). -/
def Obligations.StartUpScanEnds : Prop :=
  (∀ s : State, s.ts.startUp = .scanning → ∃ t, exec .startUpScan s = .next t
      ∧ t.nv.cell0 = s.nv.cell0 ∧ t.nv.cell1 = s.nv.cell1
      ∧ ∀ b, (t.nv.bank b).locks = (s.nv.bank b).locks
        ∧ (t.nv.bank b).header
            = (if (s.nv.bank b).header = .programming then .torn else (s.nv.bank b).header)
        ∧ (∀ k, (t.nv.bank b).slot k
            = if (s.nv.bank b).slot k = .programming then .torn else (s.nv.bank b).slot k)
        ∧ ∀ n, (t.nv.bank b).segments.get n
            = if (s.nv.bank b).segments.get n = .erasing then .eraseIncomplete
              else (s.nv.bank b).segments.get n)
    ∧ (∀ s : State, s.ts.startUp = .scanning →
        let found : Store :=
          if s.nv.bankA.marked || s.nv.bankB.marked then
            { s.ts with faultLatch := true, lastOp := .startUp, lastResult := .interrupted }
          else s.ts
        let failed : Store :=
          { s.ts with faultLatch := true, lastOp := .startUp, lastResult := .activeCheckFail }
        let reaches (ts : Store) (tt : Tracker) : Prop := ∃ t, exec .startUpScan s = .next t ∧ t = { s with
          nv := t.nv, ts := ts, tt := tt
          pins := { s.pins with
            alert := s.pins.powered && (!s.pins.resetN || !ts.mode.isRunning || ts.faultLatch) } }
        let quiet : Tracker :=
          { s.tt with tags := Vector.replicate 32 .quiet, freeList := [], quietTimer := some 5 }
        ((∀ r, s.nv.cell0 ≠ .valid r) → (∀ r, s.nv.cell1 ≠ .valid r) →
            reaches { found with mode := .unconfigured .bankA, startUp := .idle } quiet)
          ∧ ∀ c r, s.nv.newest = some c → s.nv.cell c = .valid r →
              (∀ h, (s.nv.bank r.bank).header = .valid h →
                  (∀ q, s.nv.cell c.other = .valid q →
                      reaches { found with startUp := .verifying c [c.other] } s.tt)
                    ∧ ((∀ q, s.nv.cell c.other ≠ .valid q) →
                      reaches { found with startUp := .verifying c [] } s.tt))
                ∧ ((∀ h, (s.nv.bank r.bank).header ≠ .valid h) →
                  (∀ q g, s.nv.cell c.other = .valid q → (s.nv.bank q.bank).header = .valid g →
                      reaches { failed with startUp := .verifying c.other [] } s.tt)
                    ∧ ((∀ q g, s.nv.cell c.other = .valid q → (s.nv.bank q.bank).header ≠ .valid g) →
                      reaches { failed with mode := .unconfigured (otherBank r.bank), startUp := .idle } quiet)))
    ∧ (∀ k : Bank, SlotMap.Wf k.slots → (k.marked = true ↔
        k.header = .programming ∨ (∃ n, k.slot n = .programming) ∨ ∃ n, k.segments.get n = .erasing))
    ∧ ∀ s : State, s.ts.startUp ≠ .scanning → exec .startUpScan s = .fault .startUpStageNotInProgress

/-- Pointer selection (R163, R164): a candidate whose check equals its bank's check puts its bank in
service, under its header, its generation and a quiet period of its quarantine time; one that fails latches
ACTIVE_CHECK_FAIL: with another VALID cell still to try whose bank has a VALID header, that one is tried;
with none, or one whose bank has no VALID header, which fails at once, the part goes UNCONFIGURED, the bank
that the newest record names kept out of the standby role. And the newest VALID record (R153), for every two
records, and for one or none, with the standby bank of an UNCONFIGURED part (R43). -/
def Obligations.PointerSelectionEnds : Prop :=
  (∀ (s : State) (c : CellId) (untried : List CellId) (r : PointerRecord) (h : Header),
       s.ts.startUp = .verifying c untried → s.nv.cell c = .valid r → (s.nv.bank r.bank).header = .valid h →
       let failed : Store :=
         { s.ts with faultLatch := true, lastOp := .startUp, lastResult := .activeCheckFail }
       let quiet (length : Byte) : Tracker :=
         { s.tt with tags := Vector.replicate 32 .quiet, freeList := [], quietTimer := some length }
       ((s.nv.bank r.bank).check = r.check →
           let m : Mode := .running { active := r.bank, cell := c, generation := r.generation, header := h }
           exec .pointerSelection s = .next { s with
             ts := { s.ts with mode := m, startUp := .idle }
             tt := quiet h.quarantine
             pins := { s.pins with alert := s.pins.powered && (!s.pins.resetN || s.ts.faultLatch) } })
         ∧ ((s.nv.bank r.bank).check ≠ r.check →
             (untried = [] ∨ ∃ d, untried = [d] ∧
               ∀ q g, s.nv.cell d = .valid q → (s.nv.bank q.bank).header ≠ .valid g) →
             exec .pointerSelection s = .next { s with
               ts := { failed with mode := .unconfigured s.nv.unconfiguredStandby, startUp := .idle }
               tt := quiet 5
               pins := { s.pins with alert := s.pins.powered } })
         ∧ ((s.nv.bank r.bank).check ≠ r.check → ∀ d q g, untried = [d] → s.nv.cell d = .valid q →
             (s.nv.bank q.bank).header = .valid g →
             exec .pointerSelection s = .next { s with
               ts := { failed with startUp := .verifying d [] }
               pins := { s.pins with alert := s.pins.powered } }))
    ∧ (∀ v : Nonvolatile,
           (∀ r0 r1, v.cell0 = .valid r0 → v.cell1 = .valid r1 →
               (r0.generation = r1.generation + 1 → v.newest = some .zero)
                 ∧ (r1.generation = r0.generation + 1 → v.newest = some .one)
                 ∧ (r0.generation ≠ r1.generation + 1 → r1.generation ≠ r0.generation + 1 →
                     (r1.generation.toNat < r0.generation.toNat → v.newest = some .zero)
                       ∧ (r0.generation.toNat < r1.generation.toNat → v.newest = some .one)
                       ∧ (r0.generation = r1.generation → v.newest = some .zero)))
             ∧ (∀ r0, v.cell0 = .valid r0 → (∀ r1, v.cell1 ≠ .valid r1) → v.newest = some .zero)
             ∧ (∀ r1, v.cell1 = .valid r1 → (∀ r0, v.cell0 ≠ .valid r0) → v.newest = some .one)
             ∧ ((∀ r0, v.cell0 ≠ .valid r0) → (∀ r1, v.cell1 ≠ .valid r1) →
                 v.newest = none ∧ v.unconfiguredStandby = .bankA)
             ∧ ∀ c r, v.newest = some c → v.cell c = .valid r → v.unconfiguredStandby = otherBank r.bank)

/-! ### Invariants -/

/-- The laws of the part hold right after reset. -/
def Obligations.LawsHoldAfterReset : Prop := State.reset.Inv

/-- Every step keeps the laws of the part, from every state that has them. In reset and without power the laws
rest on the model's choices: the mode and the straps written there, ALERT_N released without power
(assumption 5), and no receiver waiting for a high pin (assumption 12); and a receiver that waits holds no
partial frame, the wait being the model's (assumption 12). -/
def Obligations.EveryStepKeepsTheLaws : Prop :=
  ∀ s t : State, s.Inv → step s = .next t → t.Inv

/-- Every step keeps the laws of the Transaction Tracker: each tag in one state, the free list, the hold
list and the Downline Transmit Queue holding exactly the tags they must, DT's current transmission agreeing
with its tag, no two records with one upline key, and the quiet period over all tags or none. What the laws
say of a part in reset or without power rests on the model's choices: the mode written there (assumption 5),
and no receiver waiting for a high pin (assumption 12). -/
def Obligations.EveryStepKeepsTheTrackerLaws : Prop :=
  ∀ s t : State, s.TrackerInv → step s = .next t → t.TrackerInv

/-- Every step keeps the laws of the Table Store: banks in canonical form with legal images, the header in
force the active bank's, an operation in flight only on the standby bank and with the latch clear, and
PROGRAMMING and ERASING exactly where an operation writes or erases. What the laws say of a part in reset or
without power rests on the model's choices: the mode written there (assumption 5), and no receiver waiting
for a high pin (assumption 12). -/
def Obligations.EveryStepKeepsTheStoreLaws : Prop :=
  ∀ s t : State, s.StoreInv → step s = .next t → t.StoreInv

/-- The Upline Transmit Queue never holds more than 16 frames, and while it holds fewer the hold list and
the management holder are empty (R105): so after reset, and so after every step from a state where it is
so. -/
def Obligations.UplineQueueLawKept : Prop :=
  (State.reset.rt.uq.length ≤ 16
      ∧ (State.reset.rt.uq.length < 16 → State.reset.rt.holdList = [] ∧ State.reset.me.holder = none))
    ∧ ∀ s t : State,
        (s.rt.uq.length ≤ 16 ∧ (s.rt.uq.length < 16 → s.rt.holdList = [] ∧ s.me.holder = none)) →
        step s = .next t →
        t.rt.uq.length ≤ 16 ∧ (t.rt.uq.length < 16 → t.rt.holdList = [] ∧ t.me.holder = none)

/-- ALERT_N follows the mode and the fault latch in the event that changes them (R165): asserted while the
powered part is held in reset, STARTING or UNCONFIGURED, or with the latch set, and released in RUNNING
with the latch clear. -/
def Obligations.AlertFollowsModeAndLatch : Prop :=
  let law (s : State) : Prop :=
    s.pins.powered = true →
      (s.pins.alert = true ↔
        s.pins.resetN = false ∨ (∀ v, s.ts.mode ≠ .running v) ∨ s.ts.faultLatch = true)
  law State.reset ∧ ∀ s t : State, law s → step s = .next t → law t

/-- The fields captured at admission stay as set until the record ends, and the retransmissions made change
only by the expiry of the record's own reply timer (R75, R81). -/
def Obligations.CapturedFieldsStayAsSet : Prop :=
  ∀ (c : Instr) (s t : State) (g : Tag) (r q : Record), s.FreeListLaw → exec c s = .next t →
    s.tag g = .busy r → t.tag g = .busy q →
    q = { r with state := q.state, retransmissions := q.retransmissions }
      ∧ (q.retransmissions = r.retransmissions
          ∨ (c = .replyTimerExpiry g ∧ q.retransmissions = r.retransmissions + 1))

/-- While a bank is active, no command changes its slots, its header or its segment conditions (R123). And in
RUNNING the table in service changes only by a commit's completion, which makes the standby bank active and
raises the generation by exactly one modulo 65536 (R158). -/
def Obligations.TableInServiceIsNeverDisturbed : Prop :=
  (∀ (c : Instr) (s t : State) (v : Service), s.StoreInv → s.ts.mode = .running v → exec c s = .next t →
       (t.nv.bank v.active).slots = (s.nv.bank v.active).slots
         ∧ (t.nv.bank v.active).header = (s.nv.bank v.active).header
         ∧ (t.nv.bank v.active).segments = (s.nv.bank v.active).segments)
    ∧ (∀ (c : Instr) (s t : State) (v w : Service), s.StoreInv → s.ts.mode = .running v → exec c s = .next t →
           t.ts.mode = .running w →
           w = v ∨ ((∃ r, c = .pointerVerify r) ∧ w.active = otherBank v.active ∧ w.cell = v.cell.other
             ∧ w.generation = v.generation + 1 ∧ t.ts.lastResult = .ok ∧ t.ts.op = none))

/-- The slots of a locked segment change only while an override erase of it runs or ends, and a slot moves
only from BLANK to PROGRAMMING, from PROGRAMMING to VALID or TORN, and to BLANK by an erase of its segment
(R125, R126, R143). -/
def Obligations.SlotsChangeOnlyByWriteAndErase : Prop :=
  ∀ (c : Instr) (s t : State) (b : BankId) (k : SlotNo), s.StoreInv → exec c s = .next t →
    let x := (s.nv.bank b).slot k
    let y := (t.nv.bank b).slot k
    let erased : Prop := ∃ op ∈ s.ts.op, op.erases b (segmentOf k) = true
    (y = x ∨ (x = .blank ∧ y = .programming) ∨ (x = .programming ∧ (y = .torn ∨ ∃ e, y = .valid e))
        ∨ (y = .blank ∧ erased))
      ∧ ((s.nv.bank b).locks.get (segmentOf k) = true → y ≠ x →
          s.ts.op = some (.eraseSegment b (segmentOf k) true)
            ∨ s.ts.op = some (.eraseBank b true (.segment (segmentOf k))))

/-! ### Characters and frames -/

/-- The characters a transmitter sends for a frame, taken by a receiver that looks for a lead character,
hand on exactly that frame with its own check (R4, R5, R8, R11, R18). And the eleven levels of a character
on the line, sampled behind its start bit, are that character again (R1, R2); with the stop bit low they are
none. That the sampling within a character stands behind the receivers' events is the model's choice
(assumption 12). -/
def Obligations.SentFrameIsReceivedWhole : Prop :=
  (∀ (s : State) (line : Line) (f : Frame) (keysw rested : Bool), s.listening = true →
      s.recognises ⟨line, rested⟩ = true → f.payload.length ≤ 32 →
      s.receiver line = .hunt ∨ s.receiver line = .discard →
      s.takeCharacters line keysw rested f.characters
        = .next ((s.afterFrame line keysw).handOn f.whole line))
    ∧ ∀ c : Character,
        let data := (List.range 8).map (fun i => c.byte.getLsbD i) ++ [c.lead]
        c.bits = false :: data ++ [true] ∧ Character.ofSamples data true = some c
          ∧ Character.ofSamples data false = none

/-- The check tells apart any two frames, or bank contents, that differ in one byte alone (R5). -/
def Obligations.CheckDetectsOneWrongByte : Prop :=
  ∀ (front back : List Byte) (x y : Byte), x ≠ y → crc (front ++ x :: back) ≠ crc (front ++ y :: back)

/-- A recognised lead character starts a new partial frame in every receiver state, and in COLLECT counts
the frame it cuts short as one form error (R7, R9, R12). -/
def Obligations.LeadCharacterStartsAFrame : Prop :=
  ∀ (s : State) (line : Line) (b : Byte) (keysw rested : Bool), s.listening = true →
    s.recognises ⟨line, rested⟩ = true →
    let u := ((s.withKey keysw).setAwaitsHigh false line).setReceiver (.collect [b] none true) line
    ((s.receiver line = .hunt ∨ s.receiver line = .discard) →
        exec (.character ⟨line, rested⟩ b true keysw) s = .next u)
      ∧ ∀ bytes expected running, s.receiver line = .collect bytes expected running →
          exec (.character ⟨line, rested⟩ b true keysw) s = .next (u.count (formErrorCounter line))

/-- A recognised character with the lead mark clear (R7, R8, R12): counted in HUNT, discarded in DISCARD,
appended in COLLECT; the Length character sets the expected length, or above 32 abandons the frame. -/
def Obligations.LaterCharacterIsAppended : Prop :=
  ∀ (s : State) (line : Line) (b : Byte) (keysw rested : Bool), s.listening = true →
    s.recognises ⟨line, rested⟩ = true →
    let u := (s.withKey keysw).setAwaitsHigh false line
    (s.receiver line = .hunt →
        exec (.character ⟨line, rested⟩ b false keysw) s = .next (u.count (formErrorCounter line)))
      ∧ (s.receiver line = .discard → exec (.character ⟨line, rested⟩ b false keysw) s = .next u)
      ∧ ∀ bytes expected running, s.receiver line = .collect bytes expected running →
          (bytes.length = 3 → b.toNat ≤ 32 →
              exec (.character ⟨line, rested⟩ b false keysw) s
                = .next (u.setReceiver (.collect (bytes ++ [b]) (some (6 + b.toNat)) true) line))
            ∧ (bytes.length = 3 → 32 < b.toNat →
              exec (.character ⟨line, rested⟩ b false keysw) s
                = .next ((u.setReceiver .discard line).count (formErrorCounter line)))
            ∧ (bytes.length ≠ 3 → expected ≠ some (bytes.length + 1) →
              exec (.character ⟨line, rested⟩ b false keysw) s
                = .next (u.setReceiver (.collect (bytes ++ [b]) expected true) line))

/-- The last character of a frame (R11, R13, R14): with a good check the frame is counted and handed on, to
the Management Engine when it is a request to the effective management address, to the Request Path
otherwise, and from the downline to the tracker; with a bad one it is counted and discarded. The effective
management address is the header's in RUNNING, and F8h plus the MADR1..0 straps otherwise (R44). -/
def Obligations.LastCharacterCompletesTheFrame : Prop :=
  (∀ (s : State) (f : Frame) (keysw rested : Bool), s.Completes .upline f →
      let u := s.afterFrame .upline keysw
      exec (f.lastCharacter .upline keysw rested) s
        = .next (if f.dir = false ∧ f.exc = false ∧ f.addr = s.mgmtAddr then u.takeManagement f.whole
            else u.takeRequest f))
    ∧ (∀ (s : State) (f : Frame) (keysw rested : Bool), s.Completes .downline f →
        exec (f.lastCharacter .downline keysw rested) s = .next ((s.afterFrame .downline keysw).takeReply f))
    ∧ (∀ (s : State) (line : Line) (body : List Byte) (hi lo : Byte) (running keysw rested : Bool),
        s.listening = true → s.recognises ⟨line, rested⟩ = true → 4 ≤ body.length →
        s.receiver line = .collect (body ++ [hi]) (some (body.length + 2)) running →
        crc body ≠ wordOf hi lo →
        exec (.character ⟨line, rested⟩ lo false keysw) s
          = .next ((((s.withKey keysw).setAwaitsHigh false line).setReceiver .hunt line).count
              (checkErrorCounter line)))
    ∧ ∀ s : State, (∀ v, s.ts.mode = .running v → s.mgmtAddr = v.header.mgmtAddr)
        ∧ ((∀ v, s.ts.mode ≠ .running v) → s.mgmtAddr.toNat = 0xF8 + s.straps.madr.toNat)

/-- A character error is counted in HUNT and in COLLECT, whose partial frame is abandoned for DISCARD, and
discarded in DISCARD (R7, R10, R12). After it the receiver recognises no start bit until its pin has been
high for one bit time: until then characters, character errors and falls of the pin have no effect (R2). A
recognised start bit stops the gap timer (R6), whose expiry counts one form error and returns the receiver
to HUNT (R10). The model's choices: an expiry where the timer does not run is a named fault (assumption 10),
and a start bit outside COLLECT changes nothing more than the wait it ends (assumption 11). -/
def Obligations.PartialFrameIsAbandoned : Prop :=
  (∀ (s : State) (line : Line) (rested : Bool), s.listening = true → s.recognises ⟨line, rested⟩ = true →
       let u := s.setAwaitsHigh true line
       (s.receiver line = .hunt →
           exec (.characterError ⟨line, rested⟩) s = .next (u.count (formErrorCounter line)))
         ∧ (∀ bytes expected running, s.receiver line = .collect bytes expected running →
             exec (.characterError ⟨line, rested⟩) s
               = .next ((u.setReceiver .discard line).count (formErrorCounter line)))
         ∧ (s.receiver line = .discard → exec (.characterError ⟨line, rested⟩) s = .next u))
    ∧ (∀ (s : State) (line : Line), s.awaitsHigh line = true →
        exec (.startBit ⟨line, false⟩) s = .next s ∧ exec (.characterError ⟨line, false⟩) s = .next s
          ∧ ∀ b lead keysw, exec (.character ⟨line, false⟩ b lead keysw) s = .next (s.withKey keysw))
    ∧ (∀ (s : State) (line : Line) (rested : Bool), s.recognises ⟨line, rested⟩ = true →
        let u := s.setAwaitsHigh false line
        (∀ bytes expected running, s.receiver line = .collect bytes expected running →
            exec (.startBit ⟨line, rested⟩) s = .next (u.setReceiver (.collect bytes expected false) line))
          ∧ ((s.receiver line = .hunt ∨ s.receiver line = .discard) →
            exec (.startBit ⟨line, rested⟩) s = .next u))
    ∧ (∀ (s : State) (line : Line),
        (∀ bytes expected, s.receiver line = .collect bytes expected true →
            exec (.gapTimerExpiry line) s = .next ((s.setReceiver .hunt line).count (formErrorCounter line)))
          ∧ ((∀ bytes expected, s.receiver line ≠ .collect bytes expected true) →
            exec (.gapTimerExpiry line) s = .fault .timerNotRunning))
    ∧ ∀ (s : State) (line : Line) (rested : Bool), s.recognises ⟨line, rested⟩ = true ↔
        s.pins.powered = true ∧ s.pins.resetN = true ∧ (s.awaitsHigh line = false ∨ rested = true)

/-- In reset nothing on the lines is taken. In STARTING characters and character errors are recognised and
discarded uncounted (R15): but for the wait for a high pin that a character error begins and a recognised
start bit ends (R2), nothing changes. That the level of KEYSW comes with CHARACTER is the model's choice
(assumption 6). -/
def Obligations.ReceiversAreDeafBeforeService : Prop :=
  ∀ (s : State) (line : Line) (b : Byte) (lead keysw rested : Bool),
    ((s.pins.powered = false ∨ s.pins.resetN = false) →
        exec (.character ⟨line, rested⟩ b lead keysw) s = .next (s.withKey keysw)
          ∧ exec (.characterError ⟨line, rested⟩) s = .next s ∧ exec (.startBit ⟨line, rested⟩) s = .next s)
      ∧ (s.recognises ⟨line, rested⟩ = true → s.ts.mode = .starting →
        exec (.character ⟨line, rested⟩ b lead keysw) s = .next ((s.withKey keysw).setAwaitsHigh false line)
          ∧ exec (.characterError ⟨line, rested⟩) s = .next (s.setAwaitsHigh true line))

/-- A counter is raised by one and stays at 65535; no other counter and nothing else changes (R186). -/
def Obligations.CounterSaturates : Prop :=
  ∀ (s : State) (c : Counter),
    (s.count c).counter c = (if (s.counter c).toNat = 65535 then s.counter c else s.counter c + 1)
      ∧ (∀ d, d ≠ c → (s.count c).counter d = s.counter d)
      ∧ s.count c = { s with me := { s.me with counters := (s.count c).me.counters } }

/-! ### Admitting requests -/

/-- A foreign frame is dropped and counted, and has no further effect (R47, R48). -/
def Obligations.ForeignFrameIsDropped : Prop :=
  ∀ (s : State) (f : Frame) (keysw rested : Bool), s.Completes .upline f →
    ¬ (f.dir = false ∧ f.exc = false ∧ f.addr = s.mgmtAddr) →
    (f.dir = true ∨ f.exc = true ∨ 0xF0#8 ≤ f.addr) →
    exec (f.lastCharacter .upline keysw rested) s = .next ((s.afterFrame .upline keysw).count .foreign)

/-- In UNCONFIGURED a station request is answered NO_TABLE and counted, with no duplicate check and no
lookup (R50), and a broadcast is dropped and counted (R63). -/
def Obligations.RequestsWithoutATable : Prop :=
  ∀ (s : State) (f : Frame) (keysw rested : Bool) (b : BankId), s.Completes .upline f →
    s.ts.mode = .unconfigured b → f.dir = false → f.exc = false →
    let u := (s.afterFrame .upline keysw).count .notForwarded
    (1#8 ≤ f.addr → f.addr ≤ 0xEF#8 →
        exec (f.lastCharacter .upline keysw rested) s = .next (u.offerSynthesized (f.ownReply true [0xE6])))
      ∧ (f.addr = 0 → exec (f.lastCharacter .upline keysw rested) s = .next u)

/-- A request whose upline key a record holds, in whatever state, is dropped and counted; one whose key no
record holds passes to lookup (R51, R53). -/
def Obligations.DuplicateIsDropped : Prop :=
  ∀ (s : State) (v : Service) (f : Frame) (keysw rested : Bool), s.TakesStationRequest v f →
    let u := s.afterFrame .upline keysw
    ((∃ t r, s.tag t = .busy r ∧ r.upAddr = f.addr ∧ r.upFn = f.fn ∧ r.upTag = f.seq) →
        exec (f.lastCharacter .upline keysw rested) s = .next (u.count .duplicates))
      ∧ (s.Fresh f → exec (f.lastCharacter .upline keysw rested) s = .next (u.translate v f))

/-- Lookup answers the qualifying slot with the lowest number, and a miss when none qualifies (R38). A bank
in canonical form is an invariant of the part (`EveryStepKeepsTheStoreLaws`). -/
def Obligations.LookupFindsTheLowestQualifyingSlot : Prop :=
  ∀ (k : Bank) (addr : Byte) (fn : FunctionCode), SlotMap.Wf k.slots →
    let qualifies (n : SlotNo) (e : Entry) : Prop :=
      k.slot n = .valid e ∧ k.segments.get (segmentOf n) = .normal
        ∧ (e.keyAddr = addr ∨ (e.keyAddr = 0xFF#8 ∧ 1 ≤ addr.toNat ∧ addr.toNat ≤ 239))
        ∧ (e.keyFn = fn.setWidth 8 ∨ e.keyFn = 0xFF#8)
    (∀ n e, k.lookup addr fn = some (n, e) ↔
        qualifies n e ∧ ∀ m g, m.val < n.val → ¬ qualifies m g)
      ∧ (k.lookup addr fn = none ↔ ∀ n e, ¬ qualifies n e)

/-- A miss: dropped or answered NO_ENTRY by the miss action of the header in force, and counted (R53). -/
def Obligations.MissActionApplies : Prop :=
  ∀ (s : State) (v : Service) (f : Frame) (keysw rested : Bool), s.TakesStationRequest v f → s.Fresh f →
    (s.nv.bank v.active).lookup f.addr f.fn = none →
    let u := (s.afterFrame .upline keysw).count .notForwarded
    (v.header.missAction = .drop → exec (f.lastCharacter .upline keysw rested) s = .next u)
      ∧ (v.header.missAction = .reject →
          exec (f.lastCharacter .upline keysw rested) s = .next (u.offerSynthesized (f.ownReply true [0xE4])))

/-- A DROP entry drops, an ANSWER entry answers with its characters and a REJECT entry with REJECTED and its
reason; each is counted, and nothing goes downline (R54 to R56). -/
def Obligations.TableAnswersItself : Prop :=
  ∀ (s : State) (v : Service) (f : Frame) (keysw rested : Bool) (n : SlotNo) (e : Entry),
    s.TakesStationRequest v f → s.Fresh f → (s.nv.bank v.active).lookup f.addr f.fn = some (n, e) →
    let u := (s.afterFrame .upline keysw).count .notForwarded
    (e.action = .drop → exec (f.lastCharacter .upline keysw rested) s = .next u)
      ∧ (∀ characters, e.action = .answer characters →
          exec (f.lastCharacter .upline keysw rested) s = .next (u.offerSynthesized (f.ownReply false characters)))
      ∧ ∀ reason, e.action = .reject reason →
          exec (f.lastCharacter .upline keysw rested) s
            = .next (u.offerSynthesized (f.ownReply true [0xE3, reason]))

/-- A FORWARD request whose payload with the prefix is longer than 32 characters is answered OVERSIZE,
whatever the free list holds (R58); a shorter one with the free list empty is answered CONGESTED with
detail 00h and counted in CONGESTED (R61). -/
def Obligations.ForwardIsRefused : Prop :=
  ∀ (s : State) (v : Service) (f : Frame) (keysw rested : Bool) (n : SlotNo) (e : Entry) (p : ForwardParams),
    s.TakesStationRequest v f → s.Fresh f → (s.nv.bank v.active).lookup f.addr f.fn = some (n, e) →
    e.action = .forward p →
    let u := s.afterFrame .upline keysw
    (32 < p.front.length + f.payload.length →
        exec (f.lastCharacter .upline keysw rested) s
          = .next ((u.count .notForwarded).offerSynthesized (f.ownReply true [0xE5])))
      ∧ (p.front.length + f.payload.length ≤ 32 → s.tt.freeList = [] →
          exec (f.lastCharacter .upline keysw rested) s
            = .next ((u.count .congested).offerSynthesized (f.ownReply true [0xE2, 0x00])))

/-- Admission (R57, R59, R60): the tag at the head of the free list becomes BUSY with a record in WAIT_LINE
that captures the request, the entry and the header in force, and its entry joins the tail of the Downline
Transmit Queue; nothing is counted but the frame. -/
def Obligations.RequestIsAdmitted : Prop :=
  ∀ (s : State) (v : Service) (f : Frame) (keysw rested : Bool) (n : SlotNo) (e : Entry) (p : ForwardParams)
    (t : Tag) (rest : List Tag),
    s.TakesStationRequest v f → s.Fresh f → (s.nv.bank v.active).lookup f.addr f.fn = some (n, e) →
    e.action = .forward p → p.front.length + f.payload.length ≤ 32 → s.tt.freeList = t :: rest →
    let u := s.afterFrame .upline keysw
    exec (f.lastCharacter .upline keysw rested) s = .next { u with
      tt := { u.tt with
        tags := setAt s.tt.tags t (.busy {
          upAddr := f.addr, upFn := f.fn, upTag := f.seq
          downAddr := if p.outAddr = 0xFF#8 then f.addr else p.outAddr
          downFn := if p.outFn = 0xFF#8 then f.fn else p.outFn.setWidth 6
          downPayload := p.front ++ f.payload
          strip := p.strip.toNat
          replyTimeout := if p.timeout = 0 then v.header.defaultTimeout else p.timeout
          retryLimit := p.retryLimit.toNat
          retransmissions := 0
          quarantine := v.header.quarantine
          generation := v.generation
          slot := n.val
          state := .waitLine })
        freeList := rest
        dq := s.tt.dq ++ [.tracked t] } }

/-- A broadcast in RUNNING (R63 to R65): a miss or a DROP entry drops it; a FORWARD entry makes an untracked
frame, dropped when it is too long, then when 16 wait already, and otherwise queued. -/
def Obligations.BroadcastIsQueuedOrDropped : Prop :=
  ∀ (s : State) (v : Service) (f : Frame) (keysw rested : Bool), s.Completes .upline f →
    s.ts.mode = .running v → v.header.mgmtAddr ≠ 0 → f.dir = false → f.exc = false → f.addr = 0 →
    let u := s.afterFrame .upline keysw
    ((s.nv.bank v.active).lookup f.addr f.fn = none →
        exec (f.lastCharacter .upline keysw rested) s = .next (u.count .notForwarded))
      ∧ ∀ n e, (s.nv.bank v.active).lookup f.addr f.fn = some (n, e) →
          (e.action = .drop → exec (f.lastCharacter .upline keysw rested) s = .next (u.count .notForwarded))
          ∧ ∀ p, e.action = .forward p →
              let waiting := s.tt.dq.countP DqEntry.isUntracked
              (32 < p.front.length + f.payload.length →
                  exec (f.lastCharacter .upline keysw rested) s = .next (u.count .notForwarded))
                ∧ (p.front.length + f.payload.length ≤ 32 → 16 ≤ waiting →
                  exec (f.lastCharacter .upline keysw rested) s = .next (u.count .congested))
                ∧ (p.front.length + f.payload.length ≤ 32 → waiting < 16 →
                  exec (f.lastCharacter .upline keysw rested) s = .next { u with
                    tt := { u.tt with dq := s.tt.dq ++ [.untracked {
                      addr := 0, dir := false, exc := false
                      fn := if p.outFn = 0xFF#8 then f.fn else p.outFn.setWidth 6
                      seq := 0xFF, payload := p.front ++ f.payload }] } })

/-- A synthesized reply is appended to the Upline Transmit Queue with room, and otherwise discarded and
counted in UP_OVERFLOW (R67, R116). -/
def Obligations.SynthesizedReplyIsOffered : Prop :=
  ∀ (s : State) (f : Frame),
    (s.rt.uq.length < 16 → s.offerSynthesized f = { s with rt := { s.rt with uq := s.rt.uq ++ [f] } })
      ∧ (16 ≤ s.rt.uq.length → s.offerSynthesized f = s.count .upOverflow)

/-! ### The Transaction Tracker -/

/-- Downline frames that reach no record's reply (R84 to R86): foreign without the direction bit or with a
Sequence above 1Fh; stray for a FREE tag, and for another station or function; late for a RELEASING or
QUARANTINE tag and for a record in HELD. Only the one counter changes. -/
def Obligations.UnplacedReplyIsCounted : Prop :=
  (∀ (s : State) (f : Frame) (keysw rested : Bool), s.Completes .downline f → (f.dir = false ∨ 32 ≤ f.seq.toNat) →
      exec (f.lastCharacter .downline keysw rested) s = .next ((s.afterFrame .downline keysw).count .foreign))
    ∧ ∀ (s : State) (f : Frame) (keysw rested : Bool) (t : Tag), s.TakesReply t f →
        let u := s.afterFrame .downline keysw
        (s.tag t = .free → exec (f.lastCharacter .downline keysw rested) s = .next (u.count .strayReplies))
          ∧ (((∃ x, s.tag t = .releasing x) ∨ (∃ x, s.tag t = .quarantine x) ∨ s.tag t = .quiet) →
              exec (f.lastCharacter .downline keysw rested) s = .next (u.count .lateReplies))
          ∧ ∀ r, s.tag t = .busy r →
              ((f.addr ≠ r.downAddr ∨ f.fn ≠ r.downFn) →
                exec (f.lastCharacter .downline keysw rested) s = .next (u.count .strayReplies))
              ∧ (f.addr = r.downAddr → f.fn = r.downFn → (∃ reply origin, r.state = .held reply origin) →
                exec (f.lastCharacter .downline keysw rested) s = .next (u.count .lateReplies))

/-- A matching reply accepted with room in the Upline Transmit Queue (R87 to R90, R92, R100, R101): shaped
into the controller's numbering and appended; a waiting retransmission is withdrawn; and the record ends,
its tag RELEASING while DT sends it, FREE after one attempt answered outside SENDING, QUARANTINE otherwise. -/
def Obligations.ReplyIsDelivered : Prop :=
  ∀ (s : State) (f : Frame) (keysw rested : Bool) (t : Tag) (r : Record), s.TakesReply t f → s.tag t = .busy r →
    f.addr = r.downAddr → f.fn = r.downFn → (∀ reply origin, r.state ≠ .held reply origin) →
    s.rt.uq.length < 16 →
    let u := s.afterFrame .downline keysw
    let w := if r.state = .waitLine then
      { u with tt := { u.tt with dq := u.tt.dq.filter fun x => x ≠ DqEntry.tracked t } } else u
    exec (f.lastCharacter .downline keysw rested) s
      = .next ({ w with rt := { w.rt with uq := w.rt.uq ++ [r.upReply f] } }.release t r.quarantine
          (decide (r.retransmissions = 0 ∧ r.state ≠ RecordState.sending)))

/-- A matching reply accepted with the Upline Transmit Queue full is not lost (R90): the record passes to
HELD with the shaped reply and the note whether it was accepted in SENDING, and its tag joins the tail of
the hold list. -/
def Obligations.ReplyIsHeld : Prop :=
  ∀ (s : State) (f : Frame) (keysw rested : Bool) (t : Tag) (r : Record), s.TakesReply t f → s.tag t = .busy r →
    f.addr = r.downAddr → f.fn = r.downFn → (∀ reply origin, r.state ≠ .held reply origin) →
    16 ≤ s.rt.uq.length →
    let u := s.afterFrame .downline keysw
    let origin : Origin := if r.state = .sending then .stationInSending else .station
    exec (f.lastCharacter .downline keysw rested) s = .next { u with
      tt := { u.tt with
        tags := setAt s.tt.tags t (.busy { r with state := .held (r.upReply f) origin })
        dq := if r.state = .waitLine then s.tt.dq.filter (fun x => x ≠ DqEntry.tracked t) else s.tt.dq }
      rt := { u.rt with holdList := s.rt.holdList ++ [t] } }

/-- The expiry of a reply timer with retries left (R81): one retransmission more, the record in WAIT_LINE,
its entry at the tail of the queue, one count. The timer runs in AWAIT_REPLY alone (R80); that its expiry is
a named fault for any other tag is the model's choice (assumption 10). -/
def Obligations.SilenceIsRetransmitted : Prop :=
  ∀ (s : State) (t : Tag),
    (∀ r, s.tag t = .busy r → r.state = .awaitReply → r.retransmissions < r.retryLimit →
      exec (.replyTimerExpiry t) s = .next ({ s with
        tt := { s.tt with
          tags := setAt s.tt.tags t
            (.busy { r with state := .waitLine, retransmissions := r.retransmissions + 1 })
          dq := s.tt.dq ++ [DqEntry.tracked t] } }.count .retransmissions))
      ∧ ((∀ r, s.tag t = .busy r → r.state ≠ .awaitReply) →
          exec (.replyTimerExpiry t) s = .fault .timerNotRunning)

/-- An exhausted record (R82, R90, R92, R103): NO_REPLY is counted, and the exception under the record's
upline key with the number of attempts is appended with room, the tag going to QUARANTINE (or RELEASING were
DT sending it), or held without room. -/
def Obligations.ExhaustedRecordIsAnswered : Prop :=
  ∀ (s : State) (t : Tag) (r : Record), s.tag t = .busy r → r.state = .awaitReply →
    r.retryLimit ≤ r.retransmissions →
    let u := s.count .noReply
    let reply : Frame :=
      { addr := r.upAddr, dir := true, exc := true, fn := r.upFn, seq := r.upTag
        payload := [0xE1, BitVec.ofNat 8 (r.retransmissions + 1)] }
    (s.rt.uq.length < 16 →
        exec (.replyTimerExpiry t) s
          = .next ({ u with rt := { u.rt with uq := u.rt.uq ++ [reply] } }.release t r.quarantine false))
      ∧ (16 ≤ s.rt.uq.length →
          exec (.replyTimerExpiry t) s = .next { u with
            tt := { u.tt with tags := setAt s.tt.tags t (.busy { r with state := .held reply .exhausted }) }
            rt := { u.rt with holdList := s.rt.holdList ++ [t] } })

/-- The expiry of a tag's quarantine timer: the tag is FREE and joins the tail of the free list (R71). That
it is a named fault for a tag whose timer does not run is the model's choice (assumption 10). -/
def Obligations.QuarantineExpiryFreesTheTag : Prop :=
  ∀ (s : State) (t : Tag),
    (∀ captured, s.tag t = .quarantine captured →
        exec (.quarantineExpiry t) s = .next { s with tt := { s.tt with
          tags := setAt s.tt.tags t .free, freeList := s.tt.freeList ++ [t] } })
      ∧ ((∀ captured, s.tag t ≠ .quarantine captured) →
          exec (.quarantineExpiry t) s = .fault .timerNotRunning)

/-- The expiry of the quiet period: all 32 tags are FREE, in the free list in the order 0 to 31 (R74). That
it is a named fault with the timer not running is the model's choice (assumption 10). -/
def Obligations.QuietPeriodExpiryFreesAllTags : Prop :=
  ∀ s : State,
    (∀ length, s.tt.quietTimer = some length →
        exec .quietPeriodExpiry s = .next { s with tt := { s.tt with
          tags := Vector.replicate 32 .free, freeList := List.finRange 32, quietTimer := none } })
      ∧ (s.tt.quietTimer = none → exec .quietPeriodExpiry s = .fault .timerNotRunning)

/-- DT, when IDLE, takes the head of its queue (R20, R78): a tracked entry's record passes to SENDING and the
frame is built from it; an untracked entry's frame is sent as it stands. The model's choices: an empty queue
leaves DT IDLE (assumption 11), and while DT is SENDING the event is a named fault (assumption 10). -/
def Obligations.DtTakesTheHead : Prop :=
  ∀ s : State,
    (∀ d, s.dt = some d → exec .dtTake s = .fault .transmitterSending)
      ∧ (s.dt = none → s.tt.dq = [] → exec .dtTake s = .next s)
      ∧ (∀ f rest, s.dt = none → s.tt.dq = .untracked f :: rest →
          exec .dtTake s = .next { s with
            tt := { s.tt with dq := rest }
            dt := some { flight := { frame := f, position := 0 }, current := .untracked } })
      ∧ ∀ t rest r, s.dt = none → s.tt.dq = .tracked t :: rest → s.tag t = .busy r →
          exec .dtTake s = .next { s with
            tt := { s.tt with tags := setAt s.tt.tags t (.busy { r with state := .sending }), dq := rest }
            dt := some {
              flight := {
                frame := {
                  addr := r.downAddr, dir := false, exc := false, fn := r.downFn
                  seq := BitVec.ofNat 8 t.val, payload := r.downPayload }
                position := 0 }
              current := .tracked t } }

/-- DT reports a frame sent (R79, R80, R93): a record in SENDING passes to AWAIT_REPLY, one in HELD stays, a
RELEASING tag passes to QUARANTINE with its captured time, and an untracked frame concerns no tag. That the
report of an IDLE transmitter is a named fault is the model's choice (assumption 10). -/
def Obligations.DtReportsTheFrameSent : Prop :=
  ∀ s : State,
    (s.dt = none → exec .downlineFrameSent s = .fault .transmitterIdle)
      ∧ (∀ d, s.dt = some d → d.current = .untracked →
          exec .downlineFrameSent s = .next { s with dt := none })
      ∧ ∀ d t, s.dt = some d → d.current = .tracked t →
          (∀ r, s.tag t = .busy r → r.state = .sending →
              exec .downlineFrameSent s = .next { s with
                dt := none
                tt := { s.tt with tags := setAt s.tt.tags t (.busy { r with state := .awaitReply }) } })
            ∧ (∀ r, s.tag t = .busy r → (∃ reply origin, r.state = .held reply origin) →
              exec .downlineFrameSent s = .next { s with dt := none })
            ∧ ∀ captured, s.tag t = .releasing captured →
              exec .downlineFrameSent s = .next { s with
                dt := none
                tt := { s.tt with tags := setAt s.tt.tags t (.quarantine captured) } }

/-- FLUSH TRACKER (R94, R112, R182): every record ends with no reply, its tag RELEASING while DT sends it and
QUARANTINE otherwise; the tracked entries leave the queue, the untracked stay; the hold list is empty; and
the reply carries the number of records abandoned. -/
def Obligations.FlushAbandonsEveryRecord : Prop :=
  ∀ (s : State) (f : Frame) (keysw rested : Bool), s.Executes f → f.fn = 0x20#6 → f.payload = [] →
    let u := s.afterFrame .upline keysw
    let busy (x : TagState) : Bool := match x with | .busy _ => true | _ => false
    exec (f.lastCharacter .upline keysw rested) s = .next ({ u with
      tt := { u.tt with
        tags := Vector.ofFn fun t =>
          match s.tag t with
          | .busy r => if s.sendingTag t then .releasing r.quarantine else .quarantine r.quarantine
          | x => x
        dq := s.tt.dq.filter DqEntry.isUntracked }
      rt := { u.rt with holdList := [] } }.answered f false [BitVec.ofNat 8 (s.tt.tags.toList.countP busy)])

/-! ### The Return Path and restart -/

/-- UT, when IDLE, takes the head of the Upline Transmit Queue, and the freed place is filled from the
management holder, otherwise from the oldest held reply, whose record ends, otherwise not (R91, R92, R108 to
R110). Where a restart is due it then takes place and abandons the frame, of which UP_TX carries the start
(R23). The model's choices: that it is part of the same command (assumption 9); an empty queue leaves UT IDLE
(assumption 11), and while UT is SENDING the event is a named fault (assumption 10). -/
def Obligations.UtTakesTheHead : Prop :=
  ∀ s : State,
    let settle (t : State) : State :=
      if s.me.state = .restartDue then
        match t.ut with
        | some x => { t.restart with
            utCut := some { frame := x.frame, bits := Config.cutBits s.draws + 1 }, draws := s.draws + 1 }
        | none => t.restart
      else t
    (∀ x, s.ut = some x → exec .utTake s = .fault .transmitterSending)
      ∧ (s.ut = none → s.rt.uq = [] → exec .utTake s = .next (settle s))
      ∧ ∀ f rest, s.ut = none → s.rt.uq = f :: rest →
          let u : State := { s with ut := some { frame := f, position := 0 }, utCut := none }
          (∀ m, s.me.holder = some m →
              exec .utTake s = .next (settle { u with
                rt := { s.rt with uq := rest ++ [m] }, me := { s.me with holder := none } }))
            ∧ (s.me.holder = none → s.rt.holdList = [] →
              exec .utTake s = .next (settle { u with rt := { s.rt with uq := rest } }))
            ∧ ∀ t tags r reply origin, s.me.holder = none → s.rt.holdList = t :: tags → s.tag t = .busy r →
              r.state = .held reply origin →
              exec .utTake s = .next (settle ({ u with rt := { uq := rest ++ [reply], holdList := tags } }.release t
                r.quarantine (decide (r.retransmissions = 0 ∧ origin = Origin.station))))

/-- UT reports a frame sent (R18, R19, R23, R113, R185). The report of the RESTART reply that the Engine
waits for makes the restart: the traffic state is swept, the quiet period begins, and the Table Store, the
mode and ALERT_N stay. Where the queue still holds frames and UT's taking of its next head is offered next,
that comes first (R23): the restart is due, UT takes the head, the arbiter filling the place, and the restart
sweeps to the same state, but that UP_TX carries the start of the abandoned frame, for a number of bit times
that is a free value; nothing comes between the two. With the queue empty there is no such taking, and the
report makes the restart. Any other frame leaves UT IDLE. The model's choices: the reply is known by its
contents, the commands offered say which of the two comes first, and in the second order the restart is part
of UT_TAKE (assumption 9); the report of an IDLE transmitter is a named fault (assumption 10); and a restart
leaves a receiver's wait for a high pin as it was (assumption 12). -/
def Obligations.UtReportsTheFrameSent : Prop :=
  ∀ s : State,
    let swept (s : State) : State :=
      { s with
        ur := .hunt, dr := .hunt, ut := none, utCut := none, dt := none
        tt := { tags := Vector.replicate 32 .quiet, freeList := [], dq := []
                quietTimer := some (match s.ts.mode with | .running v => v.header.quarantine | _ => 5) }
        rt := { uq := [], holdList := [] }
        me := { state := .ready, replay := none, holder := none, counters := Vector.replicate 16 0 } }
    (s.ut = none → exec .uplineFrameSent s = .fault .transmitterIdle)
      ∧ (∀ x, s.ut = some x → s.me.state ≠ .restartPending x.frame →
          exec .uplineFrameSent s = .next { s with ut := none })
      ∧ (∀ x, s.ut = some x → s.me.state = .restartPending x.frame →
          (s.pending.head? ≠ some .utTake ∨ s.rt.uq = [] → exec .uplineFrameSent s = .next (swept s))
            ∧ (s.pending.head? = some .utTake → s.rt.uq ≠ [] → exec .uplineFrameSent s
                = .next { s with ut := none, me := { s.me with state := .restartDue } }))
      ∧ (s.me.state = .restartDue → s.pending = [] → step s = .next (swept s))
      ∧ ∀ t, s.me.state = .restartDue → exec .utTake s = .next t →
          (s.rt.uq = [] → t = swept s)
            ∧ ∀ f rest, s.rt.uq = f :: rest → t = { swept s with
                utCut := some { frame := f, bits := Config.cutBits s.draws + 1 }, draws := s.draws + 1 }

/-! ### The Table Store -/

/-- A store command with an operation in flight is refused BUSY and one with the fault latch set FAULTED,
after the tests of its image and its override flag (R120, R122, R134). A refused command changes nothing
(R122, R172, R183), and an accepted store command raises the operation number by one, answers with it and
becomes the last operation (R121). Each store command is the store's own operation with the command's
arguments: what the store refuses is the reply, and what it accepts is answered with the operation number
(R171, R179); what each operation does is the subject of the three statements that follow. -/
def Obligations.StoreCommandsAtIntake : Prop :=
  (∀ (s : State) (f : Frame) (c : Command),
       ((∃ image h, c = .programHeader image ∧ Header.ofImage image = some h)
         ∨ (∃ n flag o, c = .eraseSegment n flag ∧ overrideOf flag = some o)
         ∨ (∃ flag o, c = .eraseBank flag ∧ overrideOf flag = some o)
         ∨ c = .programStage ∨ (∃ n, c = .copySegment n) ∨ (∃ b n, c = .lockSegment b n)
         ∨ c = .checkBank ∨ ∃ w, c = .commit w) →
       (s.ts.op.isSome = true → c.run f s = (.refusal .busy, s))
         ∧ (s.ts.op = none → s.ts.faultLatch = true → c.run f s = (.refusal .faulted, s)))
    ∧ ((∀ (s t : State) (f : Frame) (c : Command) (d : Declined), c.run f s = (.refusal d, t) → t = s)
           ∧ ∀ (s t : State) (f : Frame) (c : Command) (p : List Byte) (last : LastOp),
               (c = .programStage ∧ last = .programStage) ∨ ((∃ i, c = .programHeader i) ∧ last = .programHeader)
                 ∨ ((∃ n o, c = .eraseSegment n o) ∧ last = .eraseSegment)
                 ∨ ((∃ o, c = .eraseBank o) ∧ last = .eraseBank)
                 ∨ ((∃ n, c = .copySegment n) ∧ last = .copySegment)
                 ∨ ((∃ b n, c = .lockSegment b n) ∧ last = .lockSegment)
                 ∨ (c = .checkBank ∧ last = .checkBank) ∨ ((∃ w, c = .commit w) ∧ last = .commit) →
               c.run f s = (.normal p, t) →
               t.ts.opNumber = s.ts.opNumber + 1 ∧ t.ts.lastOp = last ∧ p = [t.ts.opNumber])
    ∧ ∀ (s : State) (f : Frame),
        let reply (x : Except Declined State) : Answer × State :=
          match x with
          | .ok t => (.normal [t.ts.opNumber], t)
          | .error d => (.refusal d, s)
        Command.programStage.run f s = reply s.programStage
          ∧ (∀ image, (Command.programHeader image).run f s = reply (s.programHeader image))
          ∧ (∀ n flag, (Command.eraseSegment n flag).run f s = reply (s.eraseSegment n flag))
          ∧ (∀ flag, (Command.eraseBank flag).run f s = reply (s.eraseBank flag))
          ∧ (∀ n, (Command.copySegment n).run f s = reply (s.copySegment n))
          ∧ (∀ b n, (Command.lockSegment b n).run f s = reply (s.lockSegment b n))
          ∧ Command.checkBank.run f s = reply s.checkBank
          ∧ ∀ w, (Command.commit w).run f s = reply (s.commit w)

/-- The staging buffer and PROGRAM STAGE at its intake. STAGE ENTRY (R127, R128, R178): refused BAD_ARGUMENT
for an illegal image, then BUSY, then STAGE_MISMATCH for a slot of another page than the staged one; accepted
it adds or replaces the entry, whatever the latch, and answers with the staged page and the staged count.
DISCARD STAGE (R129, R178): refused BUSY, or empties the buffer and answers with the count it held. PROGRAM
STAGE (R130, R131): refused STAGE_EMPTY, then LOCKED; with a staged slot that is not BLANK, or its segment
not NORMAL, it completes at once with NOT_BLANK, the latch set and the buffer empty; otherwise the write of
the lowest staged slot begins. -/
def Obligations.ProgramStageAtIntake : Prop :=
  (∀ (s : State) (f : Frame) (n : SlotNo) (image : List Byte),
    let page : PageNo := ⟨n.val / 8, by omega⟩
    let place : Fin 8 := ⟨n.val % 8, by omega⟩
    let staged (entries : Vector (Option Entry) 8) (e : Entry) : Answer × State :=
      let after := setAt entries place (some e)
      (.normal [BitVec.ofNat 8 (n.val / 8), BitVec.ofNat 8 (after.toList.countP Option.isSome)],
        { s with ts := { s.ts with staging := .page page after } })
    let run := (Command.stageEntry n image).run f s
    (Entry.ofImage image = none → run = (.refusal .badArgument, s))
      ∧ ∀ e, Entry.ofImage image = some e →
        (s.ts.op.isSome = true → run = (.refusal .busy, s))
          ∧ (s.ts.op = none → s.ts.staging = .empty → run = staged (Vector.replicate 8 none) e)
          ∧ ∀ p entries, s.ts.op = none → s.ts.staging = .page p entries →
            (p = page → run = staged entries e) ∧ (p ≠ page → run = (.refusal .stageMismatch, s)))
  ∧ (∀ (s : State) (f : Frame),
    let emptied : State := { s with ts := { s.ts with staging := .empty } }
    (s.ts.op.isSome = true → Command.discardStage.run f s = (.refusal .busy, s))
      ∧ (s.ts.op = none → s.ts.staging = .empty → Command.discardStage.run f s = (.normal [0x00], emptied))
      ∧ ∀ p entries, s.ts.op = none → s.ts.staging = .page p entries →
        Command.discardStage.run f s
          = (.normal [BitVec.ofNat 8 (entries.toList.countP Option.isSome)], emptied))
  ∧ ∀ s : State, s.ts.op = none → s.ts.faultLatch = false →
    (s.ts.staging = .empty → s.programStage = .error .stageEmpty)
      ∧ ∀ p entries, s.ts.staging = .page p entries →
          let b := s.ts.mode.standby
          let k := s.nv.bank b
          let g : SegmentNo := ⟨p.val / 8, by omega⟩
          let fit : Prop := k.segments.get g = .normal
            ∧ ∀ i e, entries.get i = some e → k.slot (slotAt p i) = .blank
          (k.locks.get g = true → s.programStage = .error .locked)
            ∧ (k.locks.get g = false → ¬ fit →
              s.programStage = .ok { s with
                ts := { s.ts with
                  opNumber := s.ts.opNumber + 1, lastOp := .programStage, lastResult := .notBlank
                  faultLatch := true, staging := .empty }
                pins := { s.pins with alert := s.pins.powered } })
            ∧ ∀ i e, k.locks.get g = false → fit → entries.get i = some e →
              (∀ j, j.val < i.val → entries.get j = none) →
              s.programStage = .ok { s with
                ts := { s.ts with
                  opNumber := s.ts.opNumber + 1, lastOp := .programStage
                  op := some (.programStage b (slotAt p i) e) }
                nv := s.nv.mapBank (fun q => q.setSlot (slotAt p i) .programming) b }

/-- The erases at their intake (R134, R135, R137): a flag above 01h is BAD_ARGUMENT before anything else;
override with KEYSW low is NOT_PERMITTED; ERASE SEGMENT without override of a locked segment is LOCKED; an
accepted ERASE SEGMENT marks the segment ERASING, and ERASE BANK begins with the header. -/
def Obligations.ErasesAtIntake : Prop :=
  ∀ (s : State) (n : SegmentNo) (flag : Byte),
    let b := s.ts.mode.standby
    let started (last : LastOp) (op : StoreOp) : Store :=
      { s.ts with opNumber := s.ts.opNumber + 1, lastOp := last, op := some op }
    (2 ≤ flag.toNat → s.eraseSegment n flag = .error .badArgument ∧ s.eraseBank flag = .error .badArgument)
      ∧ (s.ts.op = none → s.ts.faultLatch = false →
        (flag = 0x01#8 → s.pins.keysw = false →
            s.eraseSegment n flag = .error .notPermitted ∧ s.eraseBank flag = .error .notPermitted)
          ∧ (flag = 0x00#8 → (s.nv.bank b).locks.get n = true → s.eraseSegment n flag = .error .locked)
          ∧ ∀ override, (flag = 0x00#8 ∧ override = false)
                ∨ (flag = 0x01#8 ∧ override = true ∧ s.pins.keysw = true) →
              s.eraseBank flag
                  = .ok { s with ts := started .eraseBank (.eraseBank b override .header) }
                ∧ (override = true ∨ (s.nv.bank b).locks.get n = false →
                  s.eraseSegment n flag = .ok { s with
                    ts := started .eraseSegment (.eraseSegment b n override)
                    nv := s.nv.mapBank (fun q => q.setCondition n .erasing) b }))

/-- PROGRAM HEADER, COPY SEGMENT, LOCK SEGMENT, CHECK BANK and COMMIT at their intake (R133, R139, R140,
R142, R144, R154, R155): what each starts, what completes at once and with which result. An illegal header
image is BAD_ARGUMENT before every other test. A copy with nothing to copy and a lock of a locked segment
complete at once with OK. A bank is ready for a commit exactly when its header is VALID, none of its slots
is TORN and all eight segments are NORMAL (R155); a segment passes the blank test of a copy exactly when it
is NORMAL and each of its slots is BLANK; and the next slot to copy is the lowest VALID slot of a NORMAL
segment from a number on, and none of any other segment (R140). -/
def Obligations.OtherOperationsAtIntake : Prop :=
  (∀ s : State, s.ts.op = none → s.ts.faultLatch = false →
       let b := s.ts.mode.standby
       let k := s.nv.bank b
       let started (last : LastOp) (op : StoreOp) : Store :=
         { s.ts with opNumber := s.ts.opNumber + 1, lastOp := last, op := some op }
       let failed (last : LastOp) (result : LastResult) : State :=
         { s with
           ts := { s.ts with
             opNumber := s.ts.opNumber + 1, lastOp := last, lastResult := result, faultLatch := true }
           pins := { s.pins with alert := s.pins.powered } }
       let done (last : LastOp) : State :=
         { s with
           ts := { s.ts with opNumber := s.ts.opNumber + 1, lastOp := last, lastResult := .ok }
           pins := { s.pins with alert := s.pins.powered && (!s.pins.resetN || !s.ts.mode.isRunning) } }
       (∀ image h, Header.ofImage image = some h →
           (k.header ≠ .blank → s.programHeader image = .ok (failed .programHeader .notBlank))
             ∧ (k.header = .blank → s.programHeader image = .ok { s with
                 ts := started .programHeader (.programHeader b h)
                 nv := s.nv.mapBank (fun q => q.setHeader .programming) b }))
         ∧ (∀ n, s.ts.mode.active = none → s.copySegment n = .error .noActive)
         ∧ (∀ n a, s.ts.mode.active = some a →
             (k.locks.get n = true → s.copySegment n = .error .locked)
               ∧ (k.locks.get n = false → k.segmentBlank n = false →
                 s.copySegment n = .ok (failed .copySegment .notBlank))
               ∧ (k.locks.get n = false → k.segmentBlank n = true → (s.nv.bank a).nextToCopy n 0 = none →
                 s.copySegment n = .ok (done .copySegment))
               ∧ ∀ i e, k.locks.get n = false → k.segmentBlank n = true →
                 (s.nv.bank a).nextToCopy n 0 = some (i, e) →
                 s.copySegment n = .ok { s with
                   ts := started .copySegment (.copySegment b n i e)
                   nv := s.nv.mapBank (fun q => q.setSlot i .programming) b })
         ∧ (∀ c n, ((s.nv.bank c).locks.get n = false → s.lockSegment c n = .ok { s with
               ts := started .lockSegment (.lockSegment c n)
               nv := s.nv.mapBank (fun q => q.setLock n true) c })
             ∧ ((s.nv.bank c).locks.get n = true → s.lockSegment c n = .ok (done .lockSegment)))
         ∧ s.checkBank = .ok { s with ts := started .checkBank (.checkBank b) }
         ∧ ∀ w, (k.ready = true → s.commit w = .ok { s with ts := started .commit (.commit b w .checking) })
             ∧ (k.ready = false → s.commit w = .ok (failed .commit .bankNotReady)))
    ∧ (∀ (s : State) (image : List Byte), Header.ofImage image = none →
        s.programHeader image = .error .badArgument)
    ∧ ∀ k : Bank, SlotMap.Wf k.slots →
        (k.ready = true ↔ (∃ h, k.header = .valid h) ∧ (∀ n, k.slot n ≠ .torn) ∧ ∀ n, k.segments.get n = .normal)
          ∧ ∀ g : SegmentNo,
            (k.segmentBlank g = true ↔
              k.segments.get g = .normal ∧ ∀ n : SlotNo, n.val / 64 = g.val → k.slot n = .blank)
            ∧ ∀ first : Nat,
              (∀ n e, k.nextToCopy g first = some (n, e) ↔
                k.segments.get g = .normal ∧ k.slot n = .valid e ∧ n.val / 64 = g.val ∧ first ≤ n.val
                  ∧ ∀ m d, m.val / 64 = g.val → first ≤ m.val → m.val < n.val → k.slot m ≠ .valid d)
              ∧ (k.nextToCopy g first = none ↔ k.segments.get g ≠ .normal
                  ∨ ∀ m d, m.val / 64 = g.val → first ≤ m.val → k.slot m ≠ .valid d)

/-- The end of an element write (R125, R131 to R133, R140): read back equal, the element is VALID and the
next write begins or the operation completes with OK; read back different, it is TORN and the operation
completes with VERIFY_FAIL and the latch set. A PROGRAM STAGE empties the buffer as it completes. The next
staged slot is the lowest one from a number on (R131); the next slot of a copy is pinned down in
`OtherOperationsAtIntake`. -/
def Obligations.ElementWriteEnds : Prop :=
  (∀ (p : PageNo) (entries : Vector (Option Entry) 8) (first : Nat),
    let entry (n : SlotNo) : Option Entry := entries.get ⟨n.val % 8, by omega⟩
    (∀ n e, (Staging.page p entries).next first = some (n, e) ↔
        n.val / 8 = p.val ∧ entry n = some e ∧ first ≤ n.val
          ∧ ∀ m, m.val / 8 = p.val → first ≤ m.val → m.val < n.val → entry m = none)
      ∧ ((Staging.page p entries).next first = none ↔
        ∀ m, m.val / 8 = p.val → first ≤ m.val → entry m = none)
      ∧ Staging.empty.next first = none)
  ∧ ∀ (s : State) (image : List Byte) (b : BankId),
    let done (result : LastResult) (staging : Staging) : Store :=
      { s.ts with
        op := none, lastResult := result, staging := staging
        faultLatch := s.ts.faultLatch || decide (result ≠ LastResult.ok) }
    let lamp (fault : Bool) : Pins :=
      { s.pins with
        alert := s.pins.powered && (!s.pins.resetN || !s.ts.mode.isRunning || s.ts.faultLatch || fault) }
    (∀ n e, s.ts.op = some (.programStage b n e) →
        (image ≠ e.image → exec (.elementWriteEnd image) s = .next { s with
            nv := s.nv.mapBank (fun k => k.setSlot n .torn) b
            ts := done .verifyFail .empty, pins := lamp true })
          ∧ (image = e.image → s.ts.staging.next (n.val + 1) = none →
            exec (.elementWriteEnd image) s = .next { s with
              nv := s.nv.mapBank (fun k => k.setSlot n (.valid e)) b
              ts := done .ok .empty, pins := lamp false })
          ∧ ∀ m g, image = e.image → s.ts.staging.next (n.val + 1) = some (m, g) →
            exec (.elementWriteEnd image) s = .next { s with
              nv := s.nv.mapBank (fun k => (k.setSlot n (.valid e)).setSlot m .programming) b
              ts := { s.ts with op := some (.programStage b m g) } })
      ∧ (∀ h, s.ts.op = some (.programHeader b h) →
        (image ≠ h.image → exec (.elementWriteEnd image) s = .next { s with
            nv := s.nv.mapBank (fun k => k.setHeader .torn) b
            ts := done .verifyFail s.ts.staging, pins := lamp true })
          ∧ (image = h.image → exec (.elementWriteEnd image) s = .next { s with
              nv := s.nv.mapBank (fun k => k.setHeader (.valid h)) b
              ts := done .ok s.ts.staging, pins := lamp false }))
      ∧ ∀ g n e, s.ts.op = some (.copySegment b g n e) →
        (image ≠ e.image → exec (.elementWriteEnd image) s = .next { s with
            nv := s.nv.mapBank (fun k => k.setSlot n .torn) b
            ts := done .verifyFail s.ts.staging, pins := lamp true })
          ∧ (image = e.image → (s.nv.bank (otherBank b)).nextToCopy g (n.val + 1) = none →
            exec (.elementWriteEnd image) s = .next { s with
              nv := s.nv.mapBank (fun k => k.setSlot n (.valid e)) b
              ts := done .ok s.ts.staging, pins := lamp false })
          ∧ ∀ m d, image = e.image → (s.nv.bank (otherBank b)).nextToCopy g (n.val + 1) = some (m, d) →
            exec (.elementWriteEnd image) s = .next { s with
              nv := s.nv.mapBank (fun k => (k.setSlot n (.valid e)).setSlot m .programming) b
              ts := { s.ts with op := some (.copySegment b g m d) } }

/-- The ends of the erases (R126, R136 to R138): the header BLANK, or every slot of the segment BLANK, the
segment NORMAL and its lock clear if override was given; an ERASE SEGMENT completes with OK; an ERASE BANK
goes on with the next segment that is not locked, or not skipped under override, and completes with OK when
none is left. No other segment changes. -/
def Obligations.ErasesEnd : Prop :=
  ∀ (s : State) (b : BankId) (override : Bool),
    let done : Store := { s.ts with op := none, lastResult := .ok }
    let lamp : Pins :=
      { s.pins with
        alert := s.pins.powered && (!s.pins.resetN || !s.ts.mode.isRunning || s.ts.faultLatch) }
    let erased (n : SegmentNo) (v : Nonvolatile) : Nonvolatile :=
      v.mapBank (fun k => k.segmentErased n override) b
    let taken (i : Nat) (m : SegmentNo) : Prop :=
      i ≤ m.val ∧ (override = true ∨ (s.nv.bank b).locks.get m = false)
    (∀ n, s.ts.op = some (.eraseSegment b n override) →
        exec .segmentEraseEnd s = .next { s with nv := erased n s.nv, ts := done, pins := lamp })
      ∧ (∀ n, s.ts.op = some (.eraseBank b override (.segment n)) →
        ((∀ m, ¬ taken (n.val + 1) m) →
            exec .segmentEraseEnd s = .next { s with nv := erased n s.nv, ts := done, pins := lamp })
          ∧ ∀ m, taken (n.val + 1) m → (∀ j, j.val < m.val → ¬ taken (n.val + 1) j) →
            exec .segmentEraseEnd s = .next { s with
              nv := (erased n s.nv).mapBank (fun k => k.setCondition m .erasing) b
              ts := { s.ts with op := some (.eraseBank b override (.segment m)) } })
      ∧ (s.ts.op = some (.eraseBank b override .header) →
        ((∀ m, ¬ taken 0 m) → exec .headerEraseEnd s = .next { s with
            nv := s.nv.mapBank (fun k => k.setHeader .blank) b, ts := done, pins := lamp })
          ∧ ∀ m, taken 0 m → (∀ j, j.val < m.val → ¬ taken 0 j) →
            exec .headerEraseEnd s = .next { s with
              nv := s.nv.mapBank (fun k => (k.setHeader .blank).setCondition m .erasing) b
              ts := { s.ts with op := some (.eraseBank b override (.segment m)) } })
      ∧ ∀ (k : Bank) (n m : SegmentNo) (i : SlotNo),
          (k.segmentErased n override).slot i = (if i.val / 64 = n.val then .blank else k.slot i)
            ∧ (k.segmentErased n override).segments.get m = (if m = n then .normal else k.segments.get m)
            ∧ (k.segmentErased n override).locks.get m
                = (if m = n ∧ override = true then false else k.locks.get m)
            ∧ (k.segmentErased n override).header = k.header

/-- The end of a lock write and of a CHECK BANK (R142, R144): both complete with OK; the check of the bank as
it stands becomes the last check value. The check is computed over the conditions and images of the header
and of the slots in order (R40), and nothing else of the bank enters it (R41). And the stage ends of the
Table Store and of start-up occur only in their stages: that each is a named fault with no operation in
flight or one in another stage is the model's choice (assumption 10). -/
def Obligations.LockAndCheckEnd : Prop :=
  (∀ (s : State) (b : BankId),
       let lamp : Pins :=
         { s.pins with
           alert := s.pins.powered && (!s.pins.resetN || !s.ts.mode.isRunning || s.ts.faultLatch) }
       (∀ n, s.ts.op = some (.lockSegment b n) →
           exec .lockWriteEnd s = .next { s with ts := { s.ts with op := none, lastResult := .ok }, pins := lamp })
         ∧ (s.ts.op = some (.checkBank b) →
           exec .checkBankComplete s = .next { s with
             ts := { s.ts with op := none, lastResult := .ok, lastCheck := some (s.nv.bank b).check }
             pins := lamp }))
    ∧ (∀ k : Bank,
        let slot (n : SlotNo) : List Byte :=
          match k.slot n with
          | .blank => [0x00] | .valid e => 0x01 :: e.image | .torn => [0x02] | .programming => [0x03]
        let header : List Byte :=
          match k.header with
          | .blank => [0x00] | .valid h => 0x01 :: h.image | .torn => [0x02] | .programming => [0x03]
        k.check = crc (header ++ (List.finRange 512).flatMap slot)
          ∧ ∀ segments locks, ({ k with segments := segments, locks := locks } : Bank).check = k.check)
    ∧ ∀ s : State,
        let stray (c : Instr) : Prop := exec c s = .fault .storeStageNotInProgress
        ((∀ b n e, s.ts.op ≠ some (.programStage b n e)) → (∀ b h, s.ts.op ≠ some (.programHeader b h)) →
            (∀ b g n e, s.ts.op ≠ some (.copySegment b g n e)) → ∀ image, stray (.elementWriteEnd image))
          ∧ ((∀ b n o, s.ts.op ≠ some (.eraseSegment b n o)) →
            (∀ b o n, s.ts.op ≠ some (.eraseBank b o (.segment n))) → stray .segmentEraseEnd)
          ∧ ((∀ b o, s.ts.op ≠ some (.eraseBank b o .header)) → stray .headerEraseEnd)
          ∧ ((∀ b n, s.ts.op ≠ some (.lockSegment b n)) → stray .lockWriteEnd)
          ∧ ((∀ b, s.ts.op ≠ some (.checkBank b)) → stray .checkBankComplete)
          ∧ ((∀ b w, s.ts.op ≠ some (.commit b w .checking)) → stray .commitCheckStageEnd)
          ∧ ((∀ b w x, s.ts.op ≠ some (.commit b w (.erased x))) → stray .pointerWriteStart)
          ∧ ((∀ b w r, s.ts.op ≠ some (.commit b w (.writing r))) → ∀ r, stray (.pointerVerify r))
          ∧ ((∀ c untried, s.ts.startUp ≠ .verifying c untried) →
            exec .pointerSelection s = .fault .startUpStageNotInProgress)

/-- The stages of a commit (R156 to R158): the computed check becomes the last check value; different from
the expected check it fails the commit with CHECK_MISMATCH, equal to it the target cell is erased; then the
cell is WRITING; then, read back equal, the record is in force, its bank active under its header and its
generation, and the mode RUNNING; read back different, the commit fails with VERIFY_FAIL, the mode and the
cell as they were. -/
def Obligations.CommitStages : Prop :=
  ∀ (s : State) (b : BankId) (w x : Word) (r q : PointerRecord) (h : Header),
    let target : CellId := match s.ts.mode with | .running v => v.cell.other | _ => .zero
    let lamp (fault : Bool) : Pins :=
      { s.pins with
        alert := s.pins.powered && (!s.pins.resetN || !s.ts.mode.isRunning || s.ts.faultLatch || fault) }
    (s.ts.op = some (.commit b w .checking) → (s.nv.bank b).check ≠ w →
        exec .commitCheckStageEnd s = .next { s with
          ts := { s.ts with
            op := none, lastResult := .checkMismatch, faultLatch := true
            lastCheck := some (s.nv.bank b).check }
          pins := lamp true })
      ∧ (s.ts.op = some (.commit b w .checking) → (s.nv.bank b).check = w →
        exec .commitCheckStageEnd s = .next { s with
          nv := s.nv.setCell .blank target
          ts := { s.ts with op := some (.commit b w (.erased w)), lastCheck := some w } })
      ∧ (s.ts.op = some (.commit b w (.erased x)) →
        exec .pointerWriteStart s = .next { s with
          nv := s.nv.setCell .writing target
          ts := { s.ts with op := some (.commit b w (.writing
            { bank := b, generation := s.ts.mode.generation + 1, check := x })) } })
      ∧ (s.ts.op = some (.commit b w (.writing r)) → q ≠ r →
        exec (.pointerVerify q) s = .next { s with
          ts := { s.ts with op := none, lastResult := .verifyFail, faultLatch := true }
          pins := lamp true })
      ∧ (s.ts.op = some (.commit b w (.writing r)) → (s.nv.bank r.bank).header = .valid h →
        exec (.pointerVerify r) s = .next { s with
          nv := s.nv.setCell (.valid r) target
          ts := { s.ts with
            op := none, lastResult := .ok
            mode := .running { active := r.bank, cell := target, generation := r.generation, header := h } }
          pins := { s.pins with alert := s.pins.powered && (!s.pins.resetN || s.ts.faultLatch) } })

/-! ### Images -/

/-- The image of every legal entry is 20 characters and reads back as that entry, and every image that the
part takes is the image of the legal entry it reads from it. An entry image is taken exactly when it has 20
characters with the values R29 to R35 permit for each position and action, and each field is read from its
own position. The same for the 8-character images of headers: a header image is taken exactly when its first
four characters are in range, and each field is read from its own position (R36). That images are held by
their fields is the model's choice (assumption 14). -/
def Obligations.ImagesReadBack : Prop :=
  ((∀ e : Entry, e.legal = true → e.image.length = 20 ∧ Entry.ofImage e.image = some e)
       ∧ ∀ image e, Entry.ofImage image = some e → e.legal = true ∧ e.image = image)
    ∧ ((∀ h : Header, h.legal = true → h.image.length = 8 ∧ Header.ofImage h.image = some h)
           ∧ (∀ image h, Header.ofImage image = some h → h.legal = true ∧ h.image = image)
           ∧ ∀ a m t q l0 l1 l2 l3 : Byte,
               ((Header.ofImage [a, m, t, q, l0, l1, l2, l3]).isSome = true ↔
                 (0xF0 ≤ a.toNat ∧ a.toNat ≤ 0xFE) ∧ m.toNat ≤ 1 ∧ 1 ≤ t.toNat ∧ 1 ≤ q.toNat)
               ∧ ∀ h, Header.ofImage [a, m, t, q, l0, l1, l2, l3] = some h →
                   h.mgmtAddr = a ∧ (h.missAction = .drop ↔ m = 0x00#8) ∧ (h.missAction = .reject ↔ m = 0x01#8)
                     ∧ h.defaultTimeout = t ∧ h.quarantine = q ∧ h.label = #v[l0, l1, l2, l3])
    ∧ ∀ image : List Byte,
        let at' (i : Nat) : Nat := (image.getD i 0).toNat
        let zero (i j : Nat) : Prop := ∀ k, i ≤ k → k < j → at' k = 0
        let forward : Prop :=
          ((1 ≤ at' 3 ∧ at' 3 ≤ 0xEF) ∨ at' 3 = 0xFF) ∧ (at' 4 ≤ 0x3F ∨ at' 4 = 0xFF) ∧ at' 5 ≤ 3 ∧ at' 7 ≤ 4
            ∧ at' 8 ≤ 4 ∧ zero (9 + at' 8) 20
            ∧ (at' 0 = 0 → at' 3 = 0xFF ∧ at' 5 = 0 ∧ at' 6 = 0 ∧ at' 7 = 0)
        let answer : Prop := at' 0 ≠ 0 ∧ zero 3 13 ∧ at' 13 ≤ 6 ∧ zero (14 + at' 13) 20
        let reject : Prop := at' 0 ≠ 0 ∧ zero 3 13 ∧ at' 13 ≤ 0xDF ∧ zero 14 20
        ((Entry.ofImage image).isSome = true ↔
            image.length = 20 ∧ (at' 0 ≤ 0xEF ∨ at' 0 = 0xFF) ∧ (at' 1 ≤ 0x3F ∨ at' 1 = 0xFF)
              ∧ ((at' 2 = 0 ∧ forward) ∨ (at' 2 = 1 ∧ answer) ∨ (at' 2 = 2 ∧ reject) ∨ (at' 2 = 3 ∧ zero 3 20)))
          ∧ ∀ e, Entry.ofImage image = some e →
              image[0]? = some e.keyAddr ∧ image[1]? = some e.keyFn
                ∧ match e.action with
                  | .forward p =>
                      at' 2 = 0 ∧ image[3]? = some p.outAddr ∧ image[4]? = some p.outFn
                        ∧ image[5]? = some p.retryLimit ∧ image[6]? = some p.timeout
                        ∧ image[7]? = some p.strip ∧ p.front.length = at' 8
                        ∧ ∀ i, i < at' 8 → image[9 + i]? = p.front[i]?
                  | .answer characters =>
                      at' 2 = 1 ∧ characters.length = at' 13
                        ∧ ∀ i, i < at' 13 → image[14 + i]? = characters[i]?
                  | .reject reason => at' 2 = 2 ∧ image[13]? = some reason
                  | .drop => at' 2 = 3

/-! ### The Management Engine -/

/-- The intake of a management request (R167 to R170): discarded while a RESTART is pending; discarded and
counted with the holder occupied; a replay answered with the stored reply and nothing executed; and
otherwise executed, with one reply recorded and offered. The command a request carries and the codes of the
refusals are pinned down in `ManagementRefusals`. -/
def Obligations.ManagementIntake : Prop :=
  ∀ (s : State) (f : Frame) (keysw rested : Bool), s.Completes .upline f →
    f.dir = false → f.exc = false → f.addr = s.mgmtAddr →
    let u := s.afterFrame .upline keysw
    (((∃ reply, s.me.state = .restartPending reply) ∨ s.me.state = .restartDue) →
        exec (f.lastCharacter .upline keysw rested) s = .next u)
      ∧ (s.me.state = .ready → ∀ m, s.me.holder = some m →
          exec (f.lastCharacter .upline keysw rested) s = .next (u.count .mgmtOverrun))
      ∧ (s.me.state = .ready → s.me.holder = none → ∀ p, s.me.replay = some p →
          p.tag = f.seq → p.fn = f.fn → p.check = f.check →
          exec (f.lastCharacter .upline keysw rested) s = .next
            (if s.rt.uq.length < 16 then { u with rt := { u.rt with uq := u.rt.uq ++ [p.reply] } }
              else { u with me := { u.me with holder := some p.reply } }))
      ∧ (s.Executes f →
          (∀ d, Command.parse f.fn f.payload = .error d →
              exec (f.lastCharacter .upline keysw rested) s = .next (u.answered f true [d.code]))
            ∧ ∀ c, Command.parse f.fn f.payload = .ok c →
              (∀ p t, c.run f u = (.normal p, t) → t.rt.uq = s.rt.uq →
                  exec (f.lastCharacter .upline keysw rested) s = .next (t.answered f false p))
                ∧ ∀ d, c.run f u = (.refusal d, u) →
                  exec (f.lastCharacter .upline keysw rested) s = .next (u.answered f true [d.code]))

/-- The Engine's own tests, in their order, and the commands of its table (R172): an unlisted function code,
a payload of another length than the command's, then a bank, slot, segment or tag out of its range; and with
every argument in range the command of that function code with those arguments, two-character numbers high
half first. And the codes of the nine refusals (R171). -/
def Obligations.ManagementRefusals : Prop :=
  (∀ (fn : FunctionCode) (p : List Byte),
    (commandLength fn = none → Command.parse fn p = .error .unknownCommand)
      ∧ (∀ n, commandLength fn = some n → p.length ≠ n → Command.parse fn p = .error .badArgument)
      ∧ (commandLength fn = none ↔ fn.toNat = 0x00 ∨ (0x08 ≤ fn.toNat ∧ fn.toNat ≤ 0x0F)
          ∨ (0x1B ≤ fn.toNat ∧ fn.toNat ≤ 0x1F) ∨ 0x22 ≤ fn.toNat)
      ∧ ∀ a b c : Byte,
          (2 ≤ a.toNat → Command.parse 0x04 [a, b, c] = .error .badArgument
              ∧ Command.parse 0x05 [a] = .error .badArgument ∧ Command.parse 0x07 [a] = .error .badArgument
              ∧ Command.parse 0x17 [a, b] = .error .badArgument)
            ∧ (512 ≤ (wordOf b c).toNat → Command.parse 0x04 [a, b, c] = .error .badArgument
              ∧ ∀ image, image.length = 20 → Command.parse 0x10 (b :: c :: image) = .error .badArgument)
            ∧ (8 ≤ b.toNat → Command.parse 0x14 [b, a] = .error .badArgument
              ∧ Command.parse 0x16 [b] = .error .badArgument ∧ Command.parse 0x17 [a, b] = .error .badArgument)
            ∧ (32 ≤ a.toNat → Command.parse 0x06 [a] = .error .badArgument))
    ∧ (∀ (b : BankId) (n : SlotNo) (g : SegmentNo) (t : Tag) (w : Word) (flag : Byte) (image : List Byte),
        let bank : Byte := match b with | .bankA => 0x00 | .bankB => 0x01
        let twoBytes (x : Nat) : List Byte := [BitVec.ofNat 8 (x / 256), BitVec.ofNat 8 (x % 256)]
        let segment : Byte := BitVec.ofNat 8 g.val
        Command.parse 0x01 [] = .ok .readStatus ∧ Command.parse 0x02 [] = .ok .readCounters
          ∧ Command.parse 0x03 [] = .ok .readAndClearCounters
          ∧ Command.parse 0x04 (bank :: twoBytes n.val) = .ok (.readEntry b n)
          ∧ Command.parse 0x05 [bank] = .ok (.readHeader b)
          ∧ Command.parse 0x06 [BitVec.ofNat 8 t.val] = .ok (.readTracker t)
          ∧ Command.parse 0x07 [bank] = .ok (.readSegments b)
          ∧ (image.length = 20 → Command.parse 0x10 (twoBytes n.val ++ image) = .ok (.stageEntry n image))
          ∧ Command.parse 0x11 [] = .ok .discardStage ∧ Command.parse 0x12 [] = .ok .programStage
          ∧ (image.length = 8 → Command.parse 0x13 image = .ok (.programHeader image))
          ∧ Command.parse 0x14 [segment, flag] = .ok (.eraseSegment g flag)
          ∧ Command.parse 0x15 [flag] = .ok (.eraseBank flag)
          ∧ Command.parse 0x16 [segment] = .ok (.copySegment g)
          ∧ Command.parse 0x17 [bank, segment] = .ok (.lockSegment b g)
          ∧ Command.parse 0x18 [] = .ok .checkBank
          ∧ Command.parse 0x19 (twoBytes w.toNat) = .ok (.commit w)
          ∧ Command.parse 0x1A [] = .ok .clearFault ∧ Command.parse 0x20 [] = .ok .flushTracker
          ∧ Command.parse 0x21 [] = .ok .restart)
    ∧ [Declined.busy, .faulted, .badArgument, .locked, .notPermitted, .stageMismatch, .stageEmpty,
        .unknownCommand, .noActive].map Declined.code
        = [0xF1, 0xF2, 0xF3, 0xF4, 0xF5, 0xF6, 0xF7, 0xF8, 0xF9]

/-- The reads. READ STATUS answers the 30 characters of the status record, with the codes of R119 (R173);
READ COUNTERS the sixteen counters, and READ AND CLEAR COUNTERS the same, setting them to 0 (R174); READ ENTRY
the conditions, the lock and the image of a VALID slot (R175); READ HEADER and READ SEGMENTS what the bank
records (R176); READ TRACKER the tag's state, and its record when it is BUSY (R177). No read changes
anything else. While an erase runs READ ENTRY and READ HEADER see the element under it as it was or BLANK,
and what they saw BLANK stays so; which of the two is a free value (R126, assumption 7). -/
def Obligations.ReadsAreReported : Prop :=
  (∀ (s : State) (f : Frame) (keysw rested : Bool), s.Executes f →
      let u := s.afterFrame .upline keysw
      let answers (payload : List Byte) (t : State) : Prop :=
        exec (f.lastCharacter .upline keysw rested) s = .next (t.answered f false payload)
      let bank (b : BankId) : Byte := match b with | .bankA => 0x00 | .bankB => 0x01
      (f.fn = 0x01#6 → f.payload = [] → answers u.statusRecord u)
        ∧ (f.fn = 0x02#6 → f.payload = [] → answers u.counterPayload u)
        ∧ (f.fn = 0x03#6 → f.payload = [] →
          answers u.counterPayload { u with me := { u.me with counters := Vector.replicate 16 0 } })
        ∧ (∀ b n, f.fn = 0x04#6 →
          f.payload = [bank b, BitVec.ofNat 8 (n.val / 256), BitVec.ofNat 8 (n.val % 256)] →
          answers ((u.eraseProgress.nv.bank b).entryPayload n) u.eraseProgress)
        ∧ (∀ b, f.fn = 0x05#6 → f.payload = [bank b] →
          answers (u.eraseProgress.nv.bank b).headerPayload u.eraseProgress)
        ∧ (∀ t : Tag, f.fn = 0x06#6 → f.payload = [BitVec.ofNat 8 t.val] → answers (s.tag t).payload u)
        ∧ ∀ b, f.fn = 0x07#6 → f.payload = [bank b] → answers (s.nv.bank b).segmentsPayload u)
    ∧ (∀ s : State,
        let tags (p : TagState → Bool) : Byte := BitVec.ofNat 8 (s.tt.tags.toList.countP p)
        let entries (p : DqEntry → Bool) : Byte := BitVec.ofNat 8 (s.tt.dq.countP p)
        let flag (b : Bool) : Byte := if b then 0x01 else 0x00
        s.statusRecord =
          (match s.ts.mode with
            | .starting => [0x00, 0xFF, 0x00, 0x00, s.mgmtAddr, 0x00, 0x00, 0x00, 0x00]
            | .running v =>
                [0x01, if v.active = .bankA then 0x00 else 0x01, highHalf v.generation, lowHalf v.generation,
                  s.mgmtAddr, v.header.label.get 0, v.header.label.get 1, v.header.label.get 2,
                  v.header.label.get 3]
            | .unconfigured _ => [0x02, 0xFF, 0x00, 0x00, s.mgmtAddr, 0x00, 0x00, 0x00, 0x00])
          ++ [match s.ts.op with
              | none => 0x00
              | some (.programStage ..) | some (.programHeader ..) => 0x01
              | some (.eraseSegment ..) | some (.eraseBank ..) => 0x02
              | some (.copySegment ..) => 0x03
              | some (.lockSegment ..) => 0x04
              | some (.checkBank ..) => 0x05
              | some (.commit ..) => 0x06]
          ++ [s.ts.opNumber, s.ts.lastOp.code, s.ts.lastResult.code, flag s.ts.faultLatch]
          ++ (match s.ts.lastCheck with
            | none => [0x00, 0x00, 0x00]
            | some w => [0x01, highHalf w, lowHalf w])
          ++ (match s.ts.staging with
            | .empty => [0xFF, 0x00]
            | .page p es => [BitVec.ofNat 8 p.val, BitVec.ofNat 8 (es.toList.countP Option.isSome)])
          ++ [flag s.pins.keysw]
          ++ [tags (fun x => x = .free), tags (fun x => match x with | .busy _ => true | _ => false),
              tags (fun x => match x with | .releasing _ => true | _ => false),
              tags (fun x => match x with | .quarantine _ | .quiet => true | _ => false)]
          ++ [entries (fun x => match x with | .tracked _ => true | _ => false),
              entries (fun x => match x with | .untracked _ => true | _ => false),
              BitVec.ofNat 8 s.rt.uq.length, BitVec.ofNat 8 s.rt.holdList.length]
          ++ [0x00, if s.ts.mode.standby = .bankA then 0x00 else 0x01]
        ∧ s.statusRecord.length = 30)
    ∧ ([LastOp.none, .programStage, .programHeader, .eraseSegment, .eraseBank, .copySegment, .lockSegment,
          .checkBank, .commit, .startUp].map LastOp.code
          = [0x00, 0x12, 0x13, 0x14, 0x15, 0x16, 0x17, 0x18, 0x19, 0xFF]
        ∧ [LastResult.ok, .notBlank, .verifyFail, .interrupted, .checkMismatch, .bankNotReady,
          .activeCheckFail].map LastResult.code = [0x00, 0x01, 0x02, 0x03, 0x04, 0x05, 0x06])
    ∧ (∀ (s : State) (c : Counter), s.counterPayload.length = 32
        ∧ s.counterPayload[2 * c.number.val]? = some (highHalf (s.counter c))
        ∧ s.counterPayload[2 * c.number.val + 1]? = some (lowHalf (s.counter c)))
    ∧ (∀ k : Bank,
        let condition (g : SegmentNo) : Byte :=
          match k.segments.get g with | .normal => 0x00 | .erasing => 0x01 | .eraseIncomplete => 0x02
        let lock (g : SegmentNo) : Byte := if k.locks.get g then 0x01 else 0x00
        (∀ n : SlotNo,
            let g : SegmentNo := ⟨n.val / 64, by omega⟩
            k.entryPayload n = match k.slot n with
              | .blank => [0x00, condition g, lock g]
              | .valid e => 0x01 :: condition g :: lock g :: e.image
              | .torn => [0x02, condition g, lock g]
              | .programming => [0x03, condition g, lock g])
          ∧ (k.headerPayload = match k.header with
              | .blank => [0x00] | .valid h => 0x01 :: h.image | .torn => [0x02] | .programming => [0x03])
          ∧ k.segmentsPayload.length = 16
          ∧ ∀ g : SegmentNo, k.segmentsPayload[2 * g.val]? = some (condition g)
            ∧ k.segmentsPayload[2 * g.val + 1]? = some (lock g))
    ∧ (∀ x : TagState, x.payload = match x with
        | .free => [0x00]
        | .releasing _ => [0x02]
        | .quarantine _ | .quiet => [0x03]
        | .busy r =>
            [0x01, match r.state with
                | .waitLine => 0x00 | .sending => 0x01 | .awaitReply => 0x02 | .held .. => 0x03,
              r.upAddr, r.upFn.setWidth 8, r.upTag, r.downAddr, r.downFn.setWidth 8,
              BitVec.ofNat 8 r.retryLimit, BitVec.ofNat 8 r.retransmissions, r.replyTimeout,
              BitVec.ofNat 8 r.strip, r.quarantine, highHalf r.generation, lowHalf r.generation,
              highHalf (BitVec.ofNat 16 r.slot), lowHalf (BitVec.ofNat 16 r.slot),
              BitVec.ofNat 8 r.downPayload.length] ++ r.downPayload.take 15)
    ∧ ∀ s : State,
        let t := s.eraseProgress
        (s.ts.op.bind StoreOp.erasing = none → t = s)
          ∧ t = { s with nv := t.nv, draws := t.draws }
          ∧ t.nv.cell0 = s.nv.cell0 ∧ t.nv.cell1 = s.nv.cell1
          ∧ ∀ b, (t.nv.bank b).segments = (s.nv.bank b).segments ∧ (t.nv.bank b).locks = (s.nv.bank b).locks
            ∧ ((t.nv.bank b).header = (s.nv.bank b).header
              ∨ ((t.nv.bank b).header = .blank ∧ s.ts.op.bind StoreOp.erasing = some (b, none)))
            ∧ ∀ k, (t.nv.bank b).slot k = (s.nv.bank b).slot k
              ∨ ((t.nv.bank b).slot k = .blank ∧ s.ts.op.bind StoreOp.erasing = some (b, some (segmentOf k)))

/-- CLEAR FAULT (R147, R165, R181) and RESTART at its intake (R183): each refused BUSY with an operation in
flight; otherwise the latch is cleared with ALERT_N following, or the Engine waits for its reply to be sent. -/
def Obligations.ClearFaultAndRestartAtIntake : Prop :=
  ∀ (s : State) (f : Frame) (keysw rested : Bool), s.Executes f → f.payload = [] →
    let u := s.afterFrame .upline keysw
    ((f.fn = 0x1A#6 ∨ f.fn = 0x21#6) → s.ts.op.isSome = true →
        exec (f.lastCharacter .upline keysw rested) s = .next (u.answered f true [0xF1]))
      ∧ (f.fn = 0x1A#6 → s.ts.op = none →
        exec (f.lastCharacter .upline keysw rested) s = .next ({ u with
          ts := { u.ts with faultLatch := false }
          pins := { u.pins with alert := !s.ts.mode.isRunning } }.answered f false
            [if s.ts.faultLatch then 0x01 else 0x00]))
      ∧ (f.fn = 0x21#6 → s.ts.op = none →
        exec (f.lastCharacter .upline keysw rested) s = .next ({ u with
          me := { u.me with state := .restartPending (f.ownReply false []) } }.answered f false []))
end

