-- ==== Sys2Proof/Laws/State.lean ====
section
/-! SUPPORT. One lemma per field per update of the state, true by `rfl`: what each update leaves as it was,
and what it makes of the field it changes. -/

namespace Sys2Proof.Machine

variable (s : State)

/-! ### `count` -/

@[simp] theorem State.count_pins (c : Counter) : (s.count c).pins = s.pins := rfl
@[simp] theorem State.count_straps (c : Counter) : (s.count c).straps = s.straps := rfl
@[simp] theorem State.count_ur (c : Counter) : (s.count c).ur = s.ur := rfl
@[simp] theorem State.count_dr (c : Counter) : (s.count c).dr = s.dr := rfl
@[simp] theorem State.count_urAwaitsHigh (c : Counter) : (s.count c).urAwaitsHigh = s.urAwaitsHigh := rfl
@[simp] theorem State.count_drAwaitsHigh (c : Counter) : (s.count c).drAwaitsHigh = s.drAwaitsHigh := rfl
@[simp] theorem State.count_ut (c : Counter) : (s.count c).ut = s.ut := rfl
@[simp] theorem State.count_dt (c : Counter) : (s.count c).dt = s.dt := rfl
@[simp] theorem State.count_tt (c : Counter) : (s.count c).tt = s.tt := rfl
@[simp] theorem State.count_rt (c : Counter) : (s.count c).rt = s.rt := rfl
@[simp] theorem State.count_me (c : Counter) :
    (s.count c).me = { s.me with counters := setAt s.me.counters c.number (bump (s.counter c)) } := rfl
@[simp] theorem State.count_nv (c : Counter) : (s.count c).nv = s.nv := rfl
@[simp] theorem State.count_ts (c : Counter) : (s.count c).ts = s.ts := rfl
@[simp] theorem State.count_utCut (c : Counter) : (s.count c).utCut = s.utCut := rfl
@[simp] theorem State.count_draws (c : Counter) : (s.count c).draws = s.draws := rfl
@[simp] theorem State.count_pending (c : Counter) : (s.count c).pending = s.pending := rfl

/-! ### `driveAlert` -/

@[simp] theorem State.driveAlert_pins :
    (s.driveAlert).pins = { s.pins with alert := s.alertLevel } := rfl
@[simp] theorem State.driveAlert_straps : (s.driveAlert).straps = s.straps := rfl
@[simp] theorem State.driveAlert_ur : (s.driveAlert).ur = s.ur := rfl
@[simp] theorem State.driveAlert_dr : (s.driveAlert).dr = s.dr := rfl
@[simp] theorem State.driveAlert_urAwaitsHigh : (s.driveAlert).urAwaitsHigh = s.urAwaitsHigh := rfl
@[simp] theorem State.driveAlert_drAwaitsHigh : (s.driveAlert).drAwaitsHigh = s.drAwaitsHigh := rfl
@[simp] theorem State.driveAlert_ut : (s.driveAlert).ut = s.ut := rfl
@[simp] theorem State.driveAlert_dt : (s.driveAlert).dt = s.dt := rfl
@[simp] theorem State.driveAlert_tt : (s.driveAlert).tt = s.tt := rfl
@[simp] theorem State.driveAlert_rt : (s.driveAlert).rt = s.rt := rfl
@[simp] theorem State.driveAlert_me : (s.driveAlert).me = s.me := rfl
@[simp] theorem State.driveAlert_nv : (s.driveAlert).nv = s.nv := rfl
@[simp] theorem State.driveAlert_ts : (s.driveAlert).ts = s.ts := rfl
@[simp] theorem State.driveAlert_utCut : (s.driveAlert).utCut = s.utCut := rfl
@[simp] theorem State.driveAlert_draws : (s.driveAlert).draws = s.draws := rfl
@[simp] theorem State.driveAlert_pending : (s.driveAlert).pending = s.pending := rfl

/-! ### `mapBank` -/

@[simp] theorem State.mapBank_pins (b : BankId) (f : Bank → Bank) : (s.mapBank b f).pins = s.pins := rfl
@[simp] theorem State.mapBank_straps (b : BankId) (f : Bank → Bank) :
    (s.mapBank b f).straps = s.straps := rfl
@[simp] theorem State.mapBank_ur (b : BankId) (f : Bank → Bank) : (s.mapBank b f).ur = s.ur := rfl
@[simp] theorem State.mapBank_dr (b : BankId) (f : Bank → Bank) : (s.mapBank b f).dr = s.dr := rfl
@[simp] theorem State.mapBank_urAwaitsHigh (b : BankId) (f : Bank → Bank) :
    (s.mapBank b f).urAwaitsHigh = s.urAwaitsHigh := rfl
@[simp] theorem State.mapBank_drAwaitsHigh (b : BankId) (f : Bank → Bank) :
    (s.mapBank b f).drAwaitsHigh = s.drAwaitsHigh := rfl
@[simp] theorem State.mapBank_ut (b : BankId) (f : Bank → Bank) : (s.mapBank b f).ut = s.ut := rfl
@[simp] theorem State.mapBank_dt (b : BankId) (f : Bank → Bank) : (s.mapBank b f).dt = s.dt := rfl
@[simp] theorem State.mapBank_tt (b : BankId) (f : Bank → Bank) : (s.mapBank b f).tt = s.tt := rfl
@[simp] theorem State.mapBank_rt (b : BankId) (f : Bank → Bank) : (s.mapBank b f).rt = s.rt := rfl
@[simp] theorem State.mapBank_me (b : BankId) (f : Bank → Bank) : (s.mapBank b f).me = s.me := rfl
@[simp] theorem State.mapBank_nv (b : BankId) (f : Bank → Bank) :
    (s.mapBank b f).nv = s.nv.mapBank f b := rfl
@[simp] theorem State.mapBank_ts (b : BankId) (f : Bank → Bank) : (s.mapBank b f).ts = s.ts := rfl
@[simp] theorem State.mapBank_utCut (b : BankId) (f : Bank → Bank) :
    (s.mapBank b f).utCut = s.utCut := rfl
@[simp] theorem State.mapBank_draws (b : BankId) (f : Bank → Bank) :
    (s.mapBank b f).draws = s.draws := rfl
@[simp] theorem State.mapBank_pending (b : BankId) (f : Bank → Bank) :
    (s.mapBank b f).pending = s.pending := rfl

/-! ### `setCell` -/

@[simp] theorem State.setCell_pins (c : CellId) (x : PointerCell) : (s.setCell c x).pins = s.pins := rfl
@[simp] theorem State.setCell_straps (c : CellId) (x : PointerCell) :
    (s.setCell c x).straps = s.straps := rfl
@[simp] theorem State.setCell_ur (c : CellId) (x : PointerCell) : (s.setCell c x).ur = s.ur := rfl
@[simp] theorem State.setCell_dr (c : CellId) (x : PointerCell) : (s.setCell c x).dr = s.dr := rfl
@[simp] theorem State.setCell_urAwaitsHigh (c : CellId) (x : PointerCell) :
    (s.setCell c x).urAwaitsHigh = s.urAwaitsHigh := rfl
@[simp] theorem State.setCell_drAwaitsHigh (c : CellId) (x : PointerCell) :
    (s.setCell c x).drAwaitsHigh = s.drAwaitsHigh := rfl
@[simp] theorem State.setCell_ut (c : CellId) (x : PointerCell) : (s.setCell c x).ut = s.ut := rfl
@[simp] theorem State.setCell_dt (c : CellId) (x : PointerCell) : (s.setCell c x).dt = s.dt := rfl
@[simp] theorem State.setCell_tt (c : CellId) (x : PointerCell) : (s.setCell c x).tt = s.tt := rfl
@[simp] theorem State.setCell_rt (c : CellId) (x : PointerCell) : (s.setCell c x).rt = s.rt := rfl
@[simp] theorem State.setCell_me (c : CellId) (x : PointerCell) : (s.setCell c x).me = s.me := rfl
@[simp] theorem State.setCell_nv (c : CellId) (x : PointerCell) :
    (s.setCell c x).nv = s.nv.setCell x c := rfl
@[simp] theorem State.setCell_ts (c : CellId) (x : PointerCell) : (s.setCell c x).ts = s.ts := rfl
@[simp] theorem State.setCell_utCut (c : CellId) (x : PointerCell) :
    (s.setCell c x).utCut = s.utCut := rfl
@[simp] theorem State.setCell_draws (c : CellId) (x : PointerCell) :
    (s.setCell c x).draws = s.draws := rfl
@[simp] theorem State.setCell_pending (c : CellId) (x : PointerCell) :
    (s.setCell c x).pending = s.pending := rfl

/-! ### `setTag` -/

@[simp] theorem State.setTag_pins (t : Tag) (x : TagState) : (s.setTag t x).pins = s.pins := rfl
@[simp] theorem State.setTag_straps (t : Tag) (x : TagState) : (s.setTag t x).straps = s.straps := rfl
@[simp] theorem State.setTag_ur (t : Tag) (x : TagState) : (s.setTag t x).ur = s.ur := rfl
@[simp] theorem State.setTag_dr (t : Tag) (x : TagState) : (s.setTag t x).dr = s.dr := rfl
@[simp] theorem State.setTag_urAwaitsHigh (t : Tag) (x : TagState) :
    (s.setTag t x).urAwaitsHigh = s.urAwaitsHigh := rfl
@[simp] theorem State.setTag_drAwaitsHigh (t : Tag) (x : TagState) :
    (s.setTag t x).drAwaitsHigh = s.drAwaitsHigh := rfl
@[simp] theorem State.setTag_ut (t : Tag) (x : TagState) : (s.setTag t x).ut = s.ut := rfl
@[simp] theorem State.setTag_dt (t : Tag) (x : TagState) : (s.setTag t x).dt = s.dt := rfl
@[simp] theorem State.setTag_tt (t : Tag) (x : TagState) :
    (s.setTag t x).tt = { s.tt with tags := setAt s.tt.tags t x } := rfl
@[simp] theorem State.setTag_rt (t : Tag) (x : TagState) : (s.setTag t x).rt = s.rt := rfl
@[simp] theorem State.setTag_me (t : Tag) (x : TagState) : (s.setTag t x).me = s.me := rfl
@[simp] theorem State.setTag_nv (t : Tag) (x : TagState) : (s.setTag t x).nv = s.nv := rfl
@[simp] theorem State.setTag_ts (t : Tag) (x : TagState) : (s.setTag t x).ts = s.ts := rfl
@[simp] theorem State.setTag_utCut (t : Tag) (x : TagState) : (s.setTag t x).utCut = s.utCut := rfl
@[simp] theorem State.setTag_draws (t : Tag) (x : TagState) : (s.setTag t x).draws = s.draws := rfl
@[simp] theorem State.setTag_pending (t : Tag) (x : TagState) :
    (s.setTag t x).pending = s.pending := rfl

/-! ### `freeTag` -/

@[simp] theorem State.freeTag_pins (t : Tag) : (s.freeTag t).pins = s.pins := rfl
@[simp] theorem State.freeTag_straps (t : Tag) : (s.freeTag t).straps = s.straps := rfl
@[simp] theorem State.freeTag_ur (t : Tag) : (s.freeTag t).ur = s.ur := rfl
@[simp] theorem State.freeTag_dr (t : Tag) : (s.freeTag t).dr = s.dr := rfl
@[simp] theorem State.freeTag_urAwaitsHigh (t : Tag) : (s.freeTag t).urAwaitsHigh = s.urAwaitsHigh := rfl
@[simp] theorem State.freeTag_drAwaitsHigh (t : Tag) : (s.freeTag t).drAwaitsHigh = s.drAwaitsHigh := rfl
@[simp] theorem State.freeTag_ut (t : Tag) : (s.freeTag t).ut = s.ut := rfl
@[simp] theorem State.freeTag_dt (t : Tag) : (s.freeTag t).dt = s.dt := rfl
@[simp] theorem State.freeTag_tt (t : Tag) :
    (s.freeTag t).tt = { s.tt with tags := setAt s.tt.tags t .free, freeList := s.tt.freeList ++ [t] } := rfl
@[simp] theorem State.freeTag_rt (t : Tag) : (s.freeTag t).rt = s.rt := rfl
@[simp] theorem State.freeTag_me (t : Tag) : (s.freeTag t).me = s.me := rfl
@[simp] theorem State.freeTag_nv (t : Tag) : (s.freeTag t).nv = s.nv := rfl
@[simp] theorem State.freeTag_ts (t : Tag) : (s.freeTag t).ts = s.ts := rfl
@[simp] theorem State.freeTag_utCut (t : Tag) : (s.freeTag t).utCut = s.utCut := rfl
@[simp] theorem State.freeTag_draws (t : Tag) : (s.freeTag t).draws = s.draws := rfl
@[simp] theorem State.freeTag_pending (t : Tag) : (s.freeTag t).pending = s.pending := rfl

/-! ### `enqueueDown` -/

@[simp] theorem State.enqueueDown_pins (x : DqEntry) : (s.enqueueDown x).pins = s.pins := rfl
@[simp] theorem State.enqueueDown_straps (x : DqEntry) : (s.enqueueDown x).straps = s.straps := rfl
@[simp] theorem State.enqueueDown_ur (x : DqEntry) : (s.enqueueDown x).ur = s.ur := rfl
@[simp] theorem State.enqueueDown_dr (x : DqEntry) : (s.enqueueDown x).dr = s.dr := rfl
@[simp] theorem State.enqueueDown_urAwaitsHigh (x : DqEntry) :
    (s.enqueueDown x).urAwaitsHigh = s.urAwaitsHigh := rfl
@[simp] theorem State.enqueueDown_drAwaitsHigh (x : DqEntry) :
    (s.enqueueDown x).drAwaitsHigh = s.drAwaitsHigh := rfl
@[simp] theorem State.enqueueDown_ut (x : DqEntry) : (s.enqueueDown x).ut = s.ut := rfl
@[simp] theorem State.enqueueDown_dt (x : DqEntry) : (s.enqueueDown x).dt = s.dt := rfl
@[simp] theorem State.enqueueDown_tt (x : DqEntry) :
    (s.enqueueDown x).tt = { s.tt with dq := s.tt.dq ++ [x] } := rfl
@[simp] theorem State.enqueueDown_rt (x : DqEntry) : (s.enqueueDown x).rt = s.rt := rfl
@[simp] theorem State.enqueueDown_me (x : DqEntry) : (s.enqueueDown x).me = s.me := rfl
@[simp] theorem State.enqueueDown_nv (x : DqEntry) : (s.enqueueDown x).nv = s.nv := rfl
@[simp] theorem State.enqueueDown_ts (x : DqEntry) : (s.enqueueDown x).ts = s.ts := rfl
@[simp] theorem State.enqueueDown_utCut (x : DqEntry) : (s.enqueueDown x).utCut = s.utCut := rfl
@[simp] theorem State.enqueueDown_draws (x : DqEntry) : (s.enqueueDown x).draws = s.draws := rfl
@[simp] theorem State.enqueueDown_pending (x : DqEntry) : (s.enqueueDown x).pending = s.pending := rfl

/-! ### `withdraw` -/

@[simp] theorem State.withdraw_pins (t : Tag) : (s.withdraw t).pins = s.pins := rfl
@[simp] theorem State.withdraw_straps (t : Tag) : (s.withdraw t).straps = s.straps := rfl
@[simp] theorem State.withdraw_ur (t : Tag) : (s.withdraw t).ur = s.ur := rfl
@[simp] theorem State.withdraw_dr (t : Tag) : (s.withdraw t).dr = s.dr := rfl
@[simp] theorem State.withdraw_urAwaitsHigh (t : Tag) : (s.withdraw t).urAwaitsHigh = s.urAwaitsHigh := rfl
@[simp] theorem State.withdraw_drAwaitsHigh (t : Tag) : (s.withdraw t).drAwaitsHigh = s.drAwaitsHigh := rfl
@[simp] theorem State.withdraw_ut (t : Tag) : (s.withdraw t).ut = s.ut := rfl
@[simp] theorem State.withdraw_dt (t : Tag) : (s.withdraw t).dt = s.dt := rfl
@[simp] theorem State.withdraw_tt (t : Tag) :
    (s.withdraw t).tt = { s.tt with dq := s.tt.dq.filter fun x => x ≠ .tracked t } := rfl
@[simp] theorem State.withdraw_rt (t : Tag) : (s.withdraw t).rt = s.rt := rfl
@[simp] theorem State.withdraw_me (t : Tag) : (s.withdraw t).me = s.me := rfl
@[simp] theorem State.withdraw_nv (t : Tag) : (s.withdraw t).nv = s.nv := rfl
@[simp] theorem State.withdraw_ts (t : Tag) : (s.withdraw t).ts = s.ts := rfl
@[simp] theorem State.withdraw_utCut (t : Tag) : (s.withdraw t).utCut = s.utCut := rfl
@[simp] theorem State.withdraw_draws (t : Tag) : (s.withdraw t).draws = s.draws := rfl
@[simp] theorem State.withdraw_pending (t : Tag) : (s.withdraw t).pending = s.pending := rfl

/-! ### `enqueueUp` -/

@[simp] theorem State.enqueueUp_pins (f : Frame) : (s.enqueueUp f).pins = s.pins := rfl
@[simp] theorem State.enqueueUp_straps (f : Frame) : (s.enqueueUp f).straps = s.straps := rfl
@[simp] theorem State.enqueueUp_ur (f : Frame) : (s.enqueueUp f).ur = s.ur := rfl
@[simp] theorem State.enqueueUp_dr (f : Frame) : (s.enqueueUp f).dr = s.dr := rfl
@[simp] theorem State.enqueueUp_urAwaitsHigh (f : Frame) :
    (s.enqueueUp f).urAwaitsHigh = s.urAwaitsHigh := rfl
@[simp] theorem State.enqueueUp_drAwaitsHigh (f : Frame) :
    (s.enqueueUp f).drAwaitsHigh = s.drAwaitsHigh := rfl
@[simp] theorem State.enqueueUp_ut (f : Frame) : (s.enqueueUp f).ut = s.ut := rfl
@[simp] theorem State.enqueueUp_dt (f : Frame) : (s.enqueueUp f).dt = s.dt := rfl
@[simp] theorem State.enqueueUp_tt (f : Frame) : (s.enqueueUp f).tt = s.tt := rfl
@[simp] theorem State.enqueueUp_rt (f : Frame) :
    (s.enqueueUp f).rt = { s.rt with uq := s.rt.uq ++ [f] } := rfl
@[simp] theorem State.enqueueUp_me (f : Frame) : (s.enqueueUp f).me = s.me := rfl
@[simp] theorem State.enqueueUp_nv (f : Frame) : (s.enqueueUp f).nv = s.nv := rfl
@[simp] theorem State.enqueueUp_ts (f : Frame) : (s.enqueueUp f).ts = s.ts := rfl
@[simp] theorem State.enqueueUp_utCut (f : Frame) : (s.enqueueUp f).utCut = s.utCut := rfl
@[simp] theorem State.enqueueUp_draws (f : Frame) : (s.enqueueUp f).draws = s.draws := rfl
@[simp] theorem State.enqueueUp_pending (f : Frame) : (s.enqueueUp f).pending = s.pending := rfl

/-! ### `setOp` -/

@[simp] theorem State.setOp_pins (op : Option StoreOp) : (s.setOp op).pins = s.pins := rfl
@[simp] theorem State.setOp_straps (op : Option StoreOp) : (s.setOp op).straps = s.straps := rfl
@[simp] theorem State.setOp_ur (op : Option StoreOp) : (s.setOp op).ur = s.ur := rfl
@[simp] theorem State.setOp_dr (op : Option StoreOp) : (s.setOp op).dr = s.dr := rfl
@[simp] theorem State.setOp_urAwaitsHigh (op : Option StoreOp) :
    (s.setOp op).urAwaitsHigh = s.urAwaitsHigh := rfl
@[simp] theorem State.setOp_drAwaitsHigh (op : Option StoreOp) :
    (s.setOp op).drAwaitsHigh = s.drAwaitsHigh := rfl
@[simp] theorem State.setOp_ut (op : Option StoreOp) : (s.setOp op).ut = s.ut := rfl
@[simp] theorem State.setOp_dt (op : Option StoreOp) : (s.setOp op).dt = s.dt := rfl
@[simp] theorem State.setOp_tt (op : Option StoreOp) : (s.setOp op).tt = s.tt := rfl
@[simp] theorem State.setOp_rt (op : Option StoreOp) : (s.setOp op).rt = s.rt := rfl
@[simp] theorem State.setOp_me (op : Option StoreOp) : (s.setOp op).me = s.me := rfl
@[simp] theorem State.setOp_nv (op : Option StoreOp) : (s.setOp op).nv = s.nv := rfl
@[simp] theorem State.setOp_ts (op : Option StoreOp) :
    (s.setOp op).ts = { s.ts with op := op } := rfl
@[simp] theorem State.setOp_utCut (op : Option StoreOp) : (s.setOp op).utCut = s.utCut := rfl
@[simp] theorem State.setOp_draws (op : Option StoreOp) : (s.setOp op).draws = s.draws := rfl
@[simp] theorem State.setOp_pending (op : Option StoreOp) : (s.setOp op).pending = s.pending := rfl

/-! ### `accept` -/

@[simp] theorem State.accept_pins (last : LastOp) : (s.accept last).pins = s.pins := rfl
@[simp] theorem State.accept_straps (last : LastOp) : (s.accept last).straps = s.straps := rfl
@[simp] theorem State.accept_ur (last : LastOp) : (s.accept last).ur = s.ur := rfl
@[simp] theorem State.accept_dr (last : LastOp) : (s.accept last).dr = s.dr := rfl
@[simp] theorem State.accept_urAwaitsHigh (last : LastOp) :
    (s.accept last).urAwaitsHigh = s.urAwaitsHigh := rfl
@[simp] theorem State.accept_drAwaitsHigh (last : LastOp) :
    (s.accept last).drAwaitsHigh = s.drAwaitsHigh := rfl
@[simp] theorem State.accept_ut (last : LastOp) : (s.accept last).ut = s.ut := rfl
@[simp] theorem State.accept_dt (last : LastOp) : (s.accept last).dt = s.dt := rfl
@[simp] theorem State.accept_tt (last : LastOp) : (s.accept last).tt = s.tt := rfl
@[simp] theorem State.accept_rt (last : LastOp) : (s.accept last).rt = s.rt := rfl
@[simp] theorem State.accept_me (last : LastOp) : (s.accept last).me = s.me := rfl
@[simp] theorem State.accept_nv (last : LastOp) : (s.accept last).nv = s.nv := rfl
@[simp] theorem State.accept_ts (last : LastOp) :
    (s.accept last).ts = { s.ts with opNumber := s.ts.opNumber + 1, lastOp := last } := rfl
@[simp] theorem State.accept_utCut (last : LastOp) : (s.accept last).utCut = s.utCut := rfl
@[simp] theorem State.accept_draws (last : LastOp) : (s.accept last).draws = s.draws := rfl
@[simp] theorem State.accept_pending (last : LastOp) : (s.accept last).pending = s.pending := rfl

/-! ### `complete` -/

@[simp] theorem State.complete_straps (result : LastResult) :
    (s.complete result).straps = s.straps := rfl
@[simp] theorem State.complete_ur (result : LastResult) : (s.complete result).ur = s.ur := rfl
@[simp] theorem State.complete_dr (result : LastResult) : (s.complete result).dr = s.dr := rfl
@[simp] theorem State.complete_urAwaitsHigh (result : LastResult) :
    (s.complete result).urAwaitsHigh = s.urAwaitsHigh := rfl
@[simp] theorem State.complete_drAwaitsHigh (result : LastResult) :
    (s.complete result).drAwaitsHigh = s.drAwaitsHigh := rfl
@[simp] theorem State.complete_ut (result : LastResult) : (s.complete result).ut = s.ut := rfl
@[simp] theorem State.complete_dt (result : LastResult) : (s.complete result).dt = s.dt := rfl
@[simp] theorem State.complete_tt (result : LastResult) : (s.complete result).tt = s.tt := rfl
@[simp] theorem State.complete_rt (result : LastResult) : (s.complete result).rt = s.rt := rfl
@[simp] theorem State.complete_me (result : LastResult) : (s.complete result).me = s.me := rfl
@[simp] theorem State.complete_nv (result : LastResult) : (s.complete result).nv = s.nv := rfl
@[simp] theorem State.complete_ts (result : LastResult) :
    (s.complete result).ts = { s.ts with
      op := none, lastResult := result, faultLatch := s.ts.faultLatch || decide (result ≠ LastResult.ok) } := rfl
@[simp] theorem State.complete_utCut (result : LastResult) : (s.complete result).utCut = s.utCut := rfl
@[simp] theorem State.complete_draws (result : LastResult) : (s.complete result).draws = s.draws := rfl
@[simp] theorem State.complete_pending (result : LastResult) :
    (s.complete result).pending = s.pending := rfl

/-! ### `completeStage` -/

@[simp] theorem State.completeStage_straps (result : LastResult) :
    (s.completeStage result).straps = s.straps := rfl
@[simp] theorem State.completeStage_ur (result : LastResult) : (s.completeStage result).ur = s.ur := rfl
@[simp] theorem State.completeStage_dr (result : LastResult) : (s.completeStage result).dr = s.dr := rfl
@[simp] theorem State.completeStage_urAwaitsHigh (result : LastResult) :
    (s.completeStage result).urAwaitsHigh = s.urAwaitsHigh := rfl
@[simp] theorem State.completeStage_drAwaitsHigh (result : LastResult) :
    (s.completeStage result).drAwaitsHigh = s.drAwaitsHigh := rfl
@[simp] theorem State.completeStage_ut (result : LastResult) : (s.completeStage result).ut = s.ut := rfl
@[simp] theorem State.completeStage_dt (result : LastResult) : (s.completeStage result).dt = s.dt := rfl
@[simp] theorem State.completeStage_tt (result : LastResult) : (s.completeStage result).tt = s.tt := rfl
@[simp] theorem State.completeStage_rt (result : LastResult) : (s.completeStage result).rt = s.rt := rfl
@[simp] theorem State.completeStage_me (result : LastResult) : (s.completeStage result).me = s.me := rfl
@[simp] theorem State.completeStage_nv (result : LastResult) : (s.completeStage result).nv = s.nv := rfl
@[simp] theorem State.completeStage_ts (result : LastResult) :
    (s.completeStage result).ts = { s.ts with
      op := none, lastResult := result, faultLatch := s.ts.faultLatch || decide (result ≠ LastResult.ok)
      staging := .empty } := rfl
@[simp] theorem State.completeStage_utCut (result : LastResult) :
    (s.completeStage result).utCut = s.utCut := rfl
@[simp] theorem State.completeStage_draws (result : LastResult) :
    (s.completeStage result).draws = s.draws := rfl
@[simp] theorem State.completeStage_pending (result : LastResult) :
    (s.completeStage result).pending = s.pending := rfl

/-! ### `beginQuiet` -/

@[simp] theorem State.beginQuiet_pins : (s.beginQuiet).pins = s.pins := rfl
@[simp] theorem State.beginQuiet_straps : (s.beginQuiet).straps = s.straps := rfl
@[simp] theorem State.beginQuiet_ur : (s.beginQuiet).ur = s.ur := rfl
@[simp] theorem State.beginQuiet_dr : (s.beginQuiet).dr = s.dr := rfl
@[simp] theorem State.beginQuiet_urAwaitsHigh : (s.beginQuiet).urAwaitsHigh = s.urAwaitsHigh := rfl
@[simp] theorem State.beginQuiet_drAwaitsHigh : (s.beginQuiet).drAwaitsHigh = s.drAwaitsHigh := rfl
@[simp] theorem State.beginQuiet_ut : (s.beginQuiet).ut = s.ut := rfl
@[simp] theorem State.beginQuiet_dt : (s.beginQuiet).dt = s.dt := rfl
@[simp] theorem State.beginQuiet_tt :
    (s.beginQuiet).tt = { s.tt with
      tags := Vector.replicate 32 .quiet, freeList := [], quietTimer := some s.quietLength } := rfl
@[simp] theorem State.beginQuiet_rt : (s.beginQuiet).rt = s.rt := rfl
@[simp] theorem State.beginQuiet_me : (s.beginQuiet).me = s.me := rfl
@[simp] theorem State.beginQuiet_nv : (s.beginQuiet).nv = s.nv := rfl
@[simp] theorem State.beginQuiet_ts : (s.beginQuiet).ts = s.ts := rfl
@[simp] theorem State.beginQuiet_utCut : (s.beginQuiet).utCut = s.utCut := rfl
@[simp] theorem State.beginQuiet_draws : (s.beginQuiet).draws = s.draws := rfl
@[simp] theorem State.beginQuiet_pending : (s.beginQuiet).pending = s.pending := rfl

/-! ### `restart` -/

@[simp] theorem State.restart_pins : (s.restart).pins = s.pins := rfl
@[simp] theorem State.restart_straps : (s.restart).straps = s.straps := rfl
@[simp] theorem State.restart_ur :
    (s.restart).ur = .hunt := rfl
@[simp] theorem State.restart_dr :
    (s.restart).dr = .hunt := rfl
@[simp] theorem State.restart_urAwaitsHigh :
    (s.restart).urAwaitsHigh = s.urAwaitsHigh := rfl
@[simp] theorem State.restart_drAwaitsHigh :
    (s.restart).drAwaitsHigh = s.drAwaitsHigh := rfl
@[simp] theorem State.restart_ut :
    (s.restart).ut = none := rfl
@[simp] theorem State.restart_dt :
    (s.restart).dt = none := rfl
@[simp] theorem State.restart_tt :
    (s.restart).tt = { tags := Vector.replicate 32 .quiet, freeList := [], dq := [], quietTimer := some s.quietLength } := rfl
@[simp] theorem State.restart_rt :
    (s.restart).rt = .empty := rfl
@[simp] theorem State.restart_me :
    (s.restart).me = .powerOn := rfl
@[simp] theorem State.restart_nv : (s.restart).nv = s.nv := rfl
@[simp] theorem State.restart_ts : (s.restart).ts = s.ts := rfl
@[simp] theorem State.restart_utCut : (s.restart).utCut = none := rfl
@[simp] theorem State.restart_draws : (s.restart).draws = s.draws := rfl
@[simp] theorem State.restart_pending : (s.restart).pending = s.pending := rfl

/-! ### `volatileReset` -/

@[simp] theorem State.volatileReset_pins : (s.volatileReset).pins = s.pins := rfl
@[simp] theorem State.volatileReset_straps :
    (s.volatileReset).straps = { rate := 0, madr := 0 } := rfl
@[simp] theorem State.volatileReset_ur :
    (s.volatileReset).ur = .hunt := rfl
@[simp] theorem State.volatileReset_dr :
    (s.volatileReset).dr = .hunt := rfl
@[simp] theorem State.volatileReset_urAwaitsHigh :
    (s.volatileReset).urAwaitsHigh = false := rfl
@[simp] theorem State.volatileReset_drAwaitsHigh :
    (s.volatileReset).drAwaitsHigh = false := rfl
@[simp] theorem State.volatileReset_ut :
    (s.volatileReset).ut = none := rfl
@[simp] theorem State.volatileReset_dt :
    (s.volatileReset).dt = none := rfl
@[simp] theorem State.volatileReset_tt :
    (s.volatileReset).tt = .powerOn := rfl
@[simp] theorem State.volatileReset_rt :
    (s.volatileReset).rt = .empty := rfl
@[simp] theorem State.volatileReset_me :
    (s.volatileReset).me = .powerOn := rfl
@[simp] theorem State.volatileReset_nv : (s.volatileReset).nv = s.nv := rfl
@[simp] theorem State.volatileReset_ts :
    (s.volatileReset).ts = .powerOn := rfl
@[simp] theorem State.volatileReset_utCut : (s.volatileReset).utCut = none := rfl
@[simp] theorem State.volatileReset_draws : (s.volatileReset).draws = s.draws := rfl
@[simp] theorem State.volatileReset_pending : (s.volatileReset).pending = s.pending := rfl

/-! ### `enterStarting` -/

@[simp] theorem State.enterStarting_pins (rate madr : BitVec 2) :
    (s.enterStarting rate madr).pins = s.pins := rfl
@[simp] theorem State.enterStarting_straps (rate madr : BitVec 2) :
    (s.enterStarting rate madr).straps = { rate, madr } := rfl
@[simp] theorem State.enterStarting_ur (rate madr : BitVec 2) :
    (s.enterStarting rate madr).ur = s.ur := rfl
@[simp] theorem State.enterStarting_dr (rate madr : BitVec 2) :
    (s.enterStarting rate madr).dr = s.dr := rfl
@[simp] theorem State.enterStarting_urAwaitsHigh (rate madr : BitVec 2) :
    (s.enterStarting rate madr).urAwaitsHigh = s.urAwaitsHigh := rfl
@[simp] theorem State.enterStarting_drAwaitsHigh (rate madr : BitVec 2) :
    (s.enterStarting rate madr).drAwaitsHigh = s.drAwaitsHigh := rfl
@[simp] theorem State.enterStarting_ut (rate madr : BitVec 2) :
    (s.enterStarting rate madr).ut = s.ut := rfl
@[simp] theorem State.enterStarting_dt (rate madr : BitVec 2) :
    (s.enterStarting rate madr).dt = s.dt := rfl
@[simp] theorem State.enterStarting_tt (rate madr : BitVec 2) :
    (s.enterStarting rate madr).tt = s.tt := rfl
@[simp] theorem State.enterStarting_rt (rate madr : BitVec 2) :
    (s.enterStarting rate madr).rt = s.rt := rfl
@[simp] theorem State.enterStarting_me (rate madr : BitVec 2) :
    (s.enterStarting rate madr).me = s.me := rfl
@[simp] theorem State.enterStarting_nv (rate madr : BitVec 2) :
    (s.enterStarting rate madr).nv = s.nv := rfl
@[simp] theorem State.enterStarting_ts (rate madr : BitVec 2) :
    (s.enterStarting rate madr).ts = { s.ts with mode := .starting, startUp := .scanning } := rfl
@[simp] theorem State.enterStarting_utCut (rate madr : BitVec 2) :
    (s.enterStarting rate madr).utCut = s.utCut := rfl
@[simp] theorem State.enterStarting_draws (rate madr : BitVec 2) :
    (s.enterStarting rate madr).draws = s.draws := rfl
@[simp] theorem State.enterStarting_pending (rate madr : BitVec 2) :
    (s.enterStarting rate madr).pending = s.pending := rfl

/-! ### `admitRecord` -/

@[simp] theorem State.admitRecord_pins (t : Tag) (rest : List Tag) (r : Record) :
    (s.admitRecord t rest r).pins = s.pins := rfl
@[simp] theorem State.admitRecord_straps (t : Tag) (rest : List Tag) (r : Record) :
    (s.admitRecord t rest r).straps = s.straps := rfl
@[simp] theorem State.admitRecord_ur (t : Tag) (rest : List Tag) (r : Record) :
    (s.admitRecord t rest r).ur = s.ur := rfl
@[simp] theorem State.admitRecord_dr (t : Tag) (rest : List Tag) (r : Record) :
    (s.admitRecord t rest r).dr = s.dr := rfl
@[simp] theorem State.admitRecord_urAwaitsHigh (t : Tag) (rest : List Tag) (r : Record) :
    (s.admitRecord t rest r).urAwaitsHigh = s.urAwaitsHigh := rfl
@[simp] theorem State.admitRecord_drAwaitsHigh (t : Tag) (rest : List Tag) (r : Record) :
    (s.admitRecord t rest r).drAwaitsHigh = s.drAwaitsHigh := rfl
@[simp] theorem State.admitRecord_ut (t : Tag) (rest : List Tag) (r : Record) :
    (s.admitRecord t rest r).ut = s.ut := rfl
@[simp] theorem State.admitRecord_dt (t : Tag) (rest : List Tag) (r : Record) :
    (s.admitRecord t rest r).dt = s.dt := rfl
@[simp] theorem State.admitRecord_tt (t : Tag) (rest : List Tag) (r : Record) :
    (s.admitRecord t rest r).tt = { s.tt with
      tags := setAt s.tt.tags t (.busy r), freeList := rest, dq := s.tt.dq ++ [.tracked t] } := rfl
@[simp] theorem State.admitRecord_rt (t : Tag) (rest : List Tag) (r : Record) :
    (s.admitRecord t rest r).rt = s.rt := rfl
@[simp] theorem State.admitRecord_me (t : Tag) (rest : List Tag) (r : Record) :
    (s.admitRecord t rest r).me = s.me := rfl
@[simp] theorem State.admitRecord_nv (t : Tag) (rest : List Tag) (r : Record) :
    (s.admitRecord t rest r).nv = s.nv := rfl
@[simp] theorem State.admitRecord_ts (t : Tag) (rest : List Tag) (r : Record) :
    (s.admitRecord t rest r).ts = s.ts := rfl
@[simp] theorem State.admitRecord_utCut (t : Tag) (rest : List Tag) (r : Record) :
    (s.admitRecord t rest r).utCut = s.utCut := rfl
@[simp] theorem State.admitRecord_draws (t : Tag) (rest : List Tag) (r : Record) :
    (s.admitRecord t rest r).draws = s.draws := rfl
@[simp] theorem State.admitRecord_pending (t : Tag) (rest : List Tag) (r : Record) :
    (s.admitRecord t rest r).pending = s.pending := rfl

/-! ### `flush` -/

@[simp] theorem State.flush_pins : (s.flush).pins = s.pins := by unfold State.flush; rfl
@[simp] theorem State.flush_straps : (s.flush).straps = s.straps := by unfold State.flush; rfl
@[simp] theorem State.flush_ur : (s.flush).ur = s.ur := by unfold State.flush; rfl
@[simp] theorem State.flush_dr : (s.flush).dr = s.dr := by unfold State.flush; rfl
@[simp] theorem State.flush_urAwaitsHigh : (s.flush).urAwaitsHigh = s.urAwaitsHigh := by unfold State.flush; rfl
@[simp] theorem State.flush_drAwaitsHigh : (s.flush).drAwaitsHigh = s.drAwaitsHigh := by unfold State.flush; rfl
@[simp] theorem State.flush_ut : (s.flush).ut = s.ut := by unfold State.flush; rfl
@[simp] theorem State.flush_dt : (s.flush).dt = s.dt := by unfold State.flush; rfl
@[simp] theorem State.flush_rt :
    (s.flush).rt = { s.rt with holdList := [] } := by unfold State.flush; rfl
@[simp] theorem State.flush_me : (s.flush).me = s.me := by unfold State.flush; rfl
@[simp] theorem State.flush_nv : (s.flush).nv = s.nv := by unfold State.flush; rfl
@[simp] theorem State.flush_ts : (s.flush).ts = s.ts := by unfold State.flush; rfl
@[simp] theorem State.flush_utCut : (s.flush).utCut = s.utCut := by unfold State.flush; rfl
@[simp] theorem State.flush_draws : (s.flush).draws = s.draws := by unfold State.flush; rfl
@[simp] theorem State.flush_pending : (s.flush).pending = s.pending := by unfold State.flush; rfl

/-! ### `beginSlotWrite` -/

@[simp] theorem State.beginSlotWrite_pins (b : BankId) (n : SlotNo) (op : StoreOp) :
    (s.beginSlotWrite b n op).pins = s.pins := rfl
@[simp] theorem State.beginSlotWrite_straps (b : BankId) (n : SlotNo) (op : StoreOp) :
    (s.beginSlotWrite b n op).straps = s.straps := rfl
@[simp] theorem State.beginSlotWrite_ur (b : BankId) (n : SlotNo) (op : StoreOp) :
    (s.beginSlotWrite b n op).ur = s.ur := rfl
@[simp] theorem State.beginSlotWrite_dr (b : BankId) (n : SlotNo) (op : StoreOp) :
    (s.beginSlotWrite b n op).dr = s.dr := rfl
@[simp] theorem State.beginSlotWrite_urAwaitsHigh (b : BankId) (n : SlotNo) (op : StoreOp) :
    (s.beginSlotWrite b n op).urAwaitsHigh = s.urAwaitsHigh := rfl
@[simp] theorem State.beginSlotWrite_drAwaitsHigh (b : BankId) (n : SlotNo) (op : StoreOp) :
    (s.beginSlotWrite b n op).drAwaitsHigh = s.drAwaitsHigh := rfl
@[simp] theorem State.beginSlotWrite_ut (b : BankId) (n : SlotNo) (op : StoreOp) :
    (s.beginSlotWrite b n op).ut = s.ut := rfl
@[simp] theorem State.beginSlotWrite_dt (b : BankId) (n : SlotNo) (op : StoreOp) :
    (s.beginSlotWrite b n op).dt = s.dt := rfl
@[simp] theorem State.beginSlotWrite_tt (b : BankId) (n : SlotNo) (op : StoreOp) :
    (s.beginSlotWrite b n op).tt = s.tt := rfl
@[simp] theorem State.beginSlotWrite_rt (b : BankId) (n : SlotNo) (op : StoreOp) :
    (s.beginSlotWrite b n op).rt = s.rt := rfl
@[simp] theorem State.beginSlotWrite_me (b : BankId) (n : SlotNo) (op : StoreOp) :
    (s.beginSlotWrite b n op).me = s.me := rfl
@[simp] theorem State.beginSlotWrite_nv (b : BankId) (n : SlotNo) (op : StoreOp) :
    (s.beginSlotWrite b n op).nv = s.nv.mapBank (fun k => k.setSlot n .programming) b := rfl
@[simp] theorem State.beginSlotWrite_ts (b : BankId) (n : SlotNo) (op : StoreOp) :
    (s.beginSlotWrite b n op).ts = { s.ts with op := some op } := rfl
@[simp] theorem State.beginSlotWrite_utCut (b : BankId) (n : SlotNo) (op : StoreOp) :
    (s.beginSlotWrite b n op).utCut = s.utCut := rfl
@[simp] theorem State.beginSlotWrite_draws (b : BankId) (n : SlotNo) (op : StoreOp) :
    (s.beginSlotWrite b n op).draws = s.draws := rfl
@[simp] theorem State.beginSlotWrite_pending (b : BankId) (n : SlotNo) (op : StoreOp) :
    (s.beginSlotWrite b n op).pending = s.pending := rfl

/-! ### `beginSegmentErase` -/

@[simp] theorem State.beginSegmentErase_pins (b : BankId) (n : SegmentNo) (op : StoreOp) :
    (s.beginSegmentErase b n op).pins = s.pins := rfl
@[simp] theorem State.beginSegmentErase_straps (b : BankId) (n : SegmentNo) (op : StoreOp) :
    (s.beginSegmentErase b n op).straps = s.straps := rfl
@[simp] theorem State.beginSegmentErase_ur (b : BankId) (n : SegmentNo) (op : StoreOp) :
    (s.beginSegmentErase b n op).ur = s.ur := rfl
@[simp] theorem State.beginSegmentErase_dr (b : BankId) (n : SegmentNo) (op : StoreOp) :
    (s.beginSegmentErase b n op).dr = s.dr := rfl
@[simp] theorem State.beginSegmentErase_urAwaitsHigh (b : BankId) (n : SegmentNo) (op : StoreOp) :
    (s.beginSegmentErase b n op).urAwaitsHigh = s.urAwaitsHigh := rfl
@[simp] theorem State.beginSegmentErase_drAwaitsHigh (b : BankId) (n : SegmentNo) (op : StoreOp) :
    (s.beginSegmentErase b n op).drAwaitsHigh = s.drAwaitsHigh := rfl
@[simp] theorem State.beginSegmentErase_ut (b : BankId) (n : SegmentNo) (op : StoreOp) :
    (s.beginSegmentErase b n op).ut = s.ut := rfl
@[simp] theorem State.beginSegmentErase_dt (b : BankId) (n : SegmentNo) (op : StoreOp) :
    (s.beginSegmentErase b n op).dt = s.dt := rfl
@[simp] theorem State.beginSegmentErase_tt (b : BankId) (n : SegmentNo) (op : StoreOp) :
    (s.beginSegmentErase b n op).tt = s.tt := rfl
@[simp] theorem State.beginSegmentErase_rt (b : BankId) (n : SegmentNo) (op : StoreOp) :
    (s.beginSegmentErase b n op).rt = s.rt := rfl
@[simp] theorem State.beginSegmentErase_me (b : BankId) (n : SegmentNo) (op : StoreOp) :
    (s.beginSegmentErase b n op).me = s.me := rfl
@[simp] theorem State.beginSegmentErase_nv (b : BankId) (n : SegmentNo) (op : StoreOp) :
    (s.beginSegmentErase b n op).nv = s.nv.mapBank (fun k => k.setCondition n .erasing) b := rfl
@[simp] theorem State.beginSegmentErase_ts (b : BankId) (n : SegmentNo) (op : StoreOp) :
    (s.beginSegmentErase b n op).ts = { s.ts with op := some op } := rfl
@[simp] theorem State.beginSegmentErase_utCut (b : BankId) (n : SegmentNo) (op : StoreOp) :
    (s.beginSegmentErase b n op).utCut = s.utCut := rfl
@[simp] theorem State.beginSegmentErase_draws (b : BankId) (n : SegmentNo) (op : StoreOp) :
    (s.beginSegmentErase b n op).draws = s.draws := rfl
@[simp] theorem State.beginSegmentErase_pending (b : BankId) (n : SegmentNo) (op : StoreOp) :
    (s.beginSegmentErase b n op).pending = s.pending := rfl

/-! ### `clearCounters` -/

@[simp] theorem State.clearCounters_pins : (s.clearCounters).pins = s.pins := rfl
@[simp] theorem State.clearCounters_straps : (s.clearCounters).straps = s.straps := rfl
@[simp] theorem State.clearCounters_ur : (s.clearCounters).ur = s.ur := rfl
@[simp] theorem State.clearCounters_dr : (s.clearCounters).dr = s.dr := rfl
@[simp] theorem State.clearCounters_urAwaitsHigh : (s.clearCounters).urAwaitsHigh = s.urAwaitsHigh := rfl
@[simp] theorem State.clearCounters_drAwaitsHigh : (s.clearCounters).drAwaitsHigh = s.drAwaitsHigh := rfl
@[simp] theorem State.clearCounters_ut : (s.clearCounters).ut = s.ut := rfl
@[simp] theorem State.clearCounters_dt : (s.clearCounters).dt = s.dt := rfl
@[simp] theorem State.clearCounters_tt : (s.clearCounters).tt = s.tt := rfl
@[simp] theorem State.clearCounters_rt : (s.clearCounters).rt = s.rt := rfl
@[simp] theorem State.clearCounters_me :
    (s.clearCounters).me = { s.me with counters := Vector.replicate 16 0 } := rfl
@[simp] theorem State.clearCounters_nv : (s.clearCounters).nv = s.nv := rfl
@[simp] theorem State.clearCounters_ts : (s.clearCounters).ts = s.ts := rfl
@[simp] theorem State.clearCounters_utCut : (s.clearCounters).utCut = s.utCut := rfl
@[simp] theorem State.clearCounters_draws : (s.clearCounters).draws = s.draws := rfl
@[simp] theorem State.clearCounters_pending : (s.clearCounters).pending = s.pending := rfl

/-! ### `sendCharacters` -/

@[simp] theorem State.sendCharacters_pins : (s.sendCharacters).pins = s.pins := rfl
@[simp] theorem State.sendCharacters_straps : (s.sendCharacters).straps = s.straps := rfl
@[simp] theorem State.sendCharacters_ur : (s.sendCharacters).ur = s.ur := rfl
@[simp] theorem State.sendCharacters_dr : (s.sendCharacters).dr = s.dr := rfl
@[simp] theorem State.sendCharacters_urAwaitsHigh : (s.sendCharacters).urAwaitsHigh = s.urAwaitsHigh := rfl
@[simp] theorem State.sendCharacters_drAwaitsHigh : (s.sendCharacters).drAwaitsHigh = s.drAwaitsHigh := rfl
@[simp] theorem State.sendCharacters_ut :
    (s.sendCharacters).ut = s.ut.map InFlight.advance := rfl
@[simp] theorem State.sendCharacters_dt :
    (s.sendCharacters).dt = s.dt.map fun d => { d with flight := d.flight.advance } := rfl
@[simp] theorem State.sendCharacters_tt : (s.sendCharacters).tt = s.tt := rfl
@[simp] theorem State.sendCharacters_rt : (s.sendCharacters).rt = s.rt := rfl
@[simp] theorem State.sendCharacters_me : (s.sendCharacters).me = s.me := rfl
@[simp] theorem State.sendCharacters_nv : (s.sendCharacters).nv = s.nv := rfl
@[simp] theorem State.sendCharacters_ts : (s.sendCharacters).ts = s.ts := rfl
@[simp] theorem State.sendCharacters_utCut : (s.sendCharacters).utCut = none := rfl
@[simp] theorem State.sendCharacters_draws : (s.sendCharacters).draws = s.draws := rfl
@[simp] theorem State.sendCharacters_pending : (s.sendCharacters).pending = s.pending := rfl

/-! ### `setLastCheck` -/

@[simp] theorem State.setLastCheck_pins (w : Word) : (s.setLastCheck w).pins = s.pins := rfl
@[simp] theorem State.setLastCheck_straps (w : Word) : (s.setLastCheck w).straps = s.straps := rfl
@[simp] theorem State.setLastCheck_ur (w : Word) : (s.setLastCheck w).ur = s.ur := rfl
@[simp] theorem State.setLastCheck_dr (w : Word) : (s.setLastCheck w).dr = s.dr := rfl
@[simp] theorem State.setLastCheck_urAwaitsHigh (w : Word) :
    (s.setLastCheck w).urAwaitsHigh = s.urAwaitsHigh := rfl
@[simp] theorem State.setLastCheck_drAwaitsHigh (w : Word) :
    (s.setLastCheck w).drAwaitsHigh = s.drAwaitsHigh := rfl
@[simp] theorem State.setLastCheck_ut (w : Word) : (s.setLastCheck w).ut = s.ut := rfl
@[simp] theorem State.setLastCheck_dt (w : Word) : (s.setLastCheck w).dt = s.dt := rfl
@[simp] theorem State.setLastCheck_tt (w : Word) : (s.setLastCheck w).tt = s.tt := rfl
@[simp] theorem State.setLastCheck_rt (w : Word) : (s.setLastCheck w).rt = s.rt := rfl
@[simp] theorem State.setLastCheck_me (w : Word) : (s.setLastCheck w).me = s.me := rfl
@[simp] theorem State.setLastCheck_nv (w : Word) : (s.setLastCheck w).nv = s.nv := rfl
@[simp] theorem State.setLastCheck_ts (w : Word) :
    (s.setLastCheck w).ts = { s.ts with lastCheck := some w } := rfl
@[simp] theorem State.setLastCheck_utCut (w : Word) : (s.setLastCheck w).utCut = s.utCut := rfl
@[simp] theorem State.setLastCheck_draws (w : Word) : (s.setLastCheck w).draws = s.draws := rfl
@[simp] theorem State.setLastCheck_pending (w : Word) : (s.setLastCheck w).pending = s.pending := rfl

/-! ### `switchTo` -/

@[simp] theorem State.switchTo_pins (record : PointerRecord) (h : Header) :
    (s.switchTo record h).pins = s.pins := rfl
@[simp] theorem State.switchTo_straps (record : PointerRecord) (h : Header) :
    (s.switchTo record h).straps = s.straps := rfl
@[simp] theorem State.switchTo_ur (record : PointerRecord) (h : Header) :
    (s.switchTo record h).ur = s.ur := rfl
@[simp] theorem State.switchTo_dr (record : PointerRecord) (h : Header) :
    (s.switchTo record h).dr = s.dr := rfl
@[simp] theorem State.switchTo_urAwaitsHigh (record : PointerRecord) (h : Header) :
    (s.switchTo record h).urAwaitsHigh = s.urAwaitsHigh := rfl
@[simp] theorem State.switchTo_drAwaitsHigh (record : PointerRecord) (h : Header) :
    (s.switchTo record h).drAwaitsHigh = s.drAwaitsHigh := rfl
@[simp] theorem State.switchTo_ut (record : PointerRecord) (h : Header) :
    (s.switchTo record h).ut = s.ut := rfl
@[simp] theorem State.switchTo_dt (record : PointerRecord) (h : Header) :
    (s.switchTo record h).dt = s.dt := rfl
@[simp] theorem State.switchTo_tt (record : PointerRecord) (h : Header) :
    (s.switchTo record h).tt = s.tt := rfl
@[simp] theorem State.switchTo_rt (record : PointerRecord) (h : Header) :
    (s.switchTo record h).rt = s.rt := rfl
@[simp] theorem State.switchTo_me (record : PointerRecord) (h : Header) :
    (s.switchTo record h).me = s.me := rfl
@[simp] theorem State.switchTo_nv (record : PointerRecord) (h : Header) :
    (s.switchTo record h).nv = s.nv.setCell (.valid record) s.ts.mode.targetCell := rfl
@[simp] theorem State.switchTo_utCut (record : PointerRecord) (h : Header) :
    (s.switchTo record h).utCut = s.utCut := rfl
@[simp] theorem State.switchTo_draws (record : PointerRecord) (h : Header) :
    (s.switchTo record h).draws = s.draws := rfl
@[simp] theorem State.switchTo_pending (record : PointerRecord) (h : Header) :
    (s.switchTo record h).pending = s.pending := rfl

/-! ### `startUpFault` -/

@[simp] theorem State.startUpFault_pins (result : LastResult) :
    (s.startUpFault result).pins = s.pins := rfl
@[simp] theorem State.startUpFault_straps (result : LastResult) :
    (s.startUpFault result).straps = s.straps := rfl
@[simp] theorem State.startUpFault_ur (result : LastResult) : (s.startUpFault result).ur = s.ur := rfl
@[simp] theorem State.startUpFault_dr (result : LastResult) : (s.startUpFault result).dr = s.dr := rfl
@[simp] theorem State.startUpFault_urAwaitsHigh (result : LastResult) :
    (s.startUpFault result).urAwaitsHigh = s.urAwaitsHigh := rfl
@[simp] theorem State.startUpFault_drAwaitsHigh (result : LastResult) :
    (s.startUpFault result).drAwaitsHigh = s.drAwaitsHigh := rfl
@[simp] theorem State.startUpFault_ut (result : LastResult) : (s.startUpFault result).ut = s.ut := rfl
@[simp] theorem State.startUpFault_dt (result : LastResult) : (s.startUpFault result).dt = s.dt := rfl
@[simp] theorem State.startUpFault_tt (result : LastResult) : (s.startUpFault result).tt = s.tt := rfl
@[simp] theorem State.startUpFault_rt (result : LastResult) : (s.startUpFault result).rt = s.rt := rfl
@[simp] theorem State.startUpFault_me (result : LastResult) : (s.startUpFault result).me = s.me := rfl
@[simp] theorem State.startUpFault_nv (result : LastResult) : (s.startUpFault result).nv = s.nv := rfl
@[simp] theorem State.startUpFault_ts (result : LastResult) :
    (s.startUpFault result).ts = { s.ts with faultLatch := true, lastOp := .startUp, lastResult := result } := rfl
@[simp] theorem State.startUpFault_utCut (result : LastResult) :
    (s.startUpFault result).utCut = s.utCut := rfl
@[simp] theorem State.startUpFault_draws (result : LastResult) :
    (s.startUpFault result).draws = s.draws := rfl
@[simp] theorem State.startUpFault_pending (result : LastResult) :
    (s.startUpFault result).pending = s.pending := rfl

/-! ### `setAwaitsHigh` -/

@[simp] theorem State.setAwaitsHigh_pins (b : Bool) (line : Line) :
    (s.setAwaitsHigh b line).pins = s.pins := by
  cases line <;> rfl
@[simp] theorem State.setAwaitsHigh_straps (b : Bool) (line : Line) :
    (s.setAwaitsHigh b line).straps = s.straps := by
  cases line <;> rfl
@[simp] theorem State.setAwaitsHigh_ut (b : Bool) (line : Line) :
    (s.setAwaitsHigh b line).ut = s.ut := by
  cases line <;> rfl
@[simp] theorem State.setAwaitsHigh_dt (b : Bool) (line : Line) :
    (s.setAwaitsHigh b line).dt = s.dt := by
  cases line <;> rfl
@[simp] theorem State.setAwaitsHigh_tt (b : Bool) (line : Line) :
    (s.setAwaitsHigh b line).tt = s.tt := by
  cases line <;> rfl
@[simp] theorem State.setAwaitsHigh_rt (b : Bool) (line : Line) :
    (s.setAwaitsHigh b line).rt = s.rt := by
  cases line <;> rfl
@[simp] theorem State.setAwaitsHigh_me (b : Bool) (line : Line) :
    (s.setAwaitsHigh b line).me = s.me := by
  cases line <;> rfl
@[simp] theorem State.setAwaitsHigh_nv (b : Bool) (line : Line) :
    (s.setAwaitsHigh b line).nv = s.nv := by
  cases line <;> rfl
@[simp] theorem State.setAwaitsHigh_ts (b : Bool) (line : Line) :
    (s.setAwaitsHigh b line).ts = s.ts := by
  cases line <;> rfl
@[simp] theorem State.setAwaitsHigh_utCut (b : Bool) (line : Line) :
    (s.setAwaitsHigh b line).utCut = s.utCut := by
  cases line <;> rfl
@[simp] theorem State.setAwaitsHigh_draws (b : Bool) (line : Line) :
    (s.setAwaitsHigh b line).draws = s.draws := by
  cases line <;> rfl
@[simp] theorem State.setAwaitsHigh_pending (b : Bool) (line : Line) :
    (s.setAwaitsHigh b line).pending = s.pending := by
  cases line <;> rfl
@[simp] theorem State.setAwaitsHigh_receiver (b : Bool) (line other : Line) :
    (s.setAwaitsHigh b line).receiver other = s.receiver other := by
  cases line <;> cases other <;> rfl
@[simp] theorem State.setAwaitsHigh_awaitsHigh (b : Bool) (line : Line) :
    (s.setAwaitsHigh b line).awaitsHigh line = b := by
  cases line <;> rfl

theorem State.setAwaitsHigh_awaitsHigh_ne (b : Bool) {line other : Line} (h : line ≠ other) :
    (s.setAwaitsHigh b line).awaitsHigh other = s.awaitsHigh other := by
  cases line <;> cases other <;> first | rfl | exact absurd rfl h

@[simp] theorem State.setReceiver_awaitsHigh (r : Receiver) (line other : Line) :
    (s.setReceiver r line).awaitsHigh other = s.awaitsHigh other := by
  cases line <;> cases other <;> rfl

/-! ### `setReceiver` -/

@[simp] theorem State.setReceiver_pins (r : Receiver) (line : Line) :
    (s.setReceiver r line).pins = s.pins := by
  cases line <;> rfl
@[simp] theorem State.setReceiver_straps (r : Receiver) (line : Line) :
    (s.setReceiver r line).straps = s.straps := by
  cases line <;> rfl
@[simp] theorem State.setReceiver_ut (r : Receiver) (line : Line) : (s.setReceiver r line).ut = s.ut := by
  cases line <;> rfl
@[simp] theorem State.setReceiver_dt (r : Receiver) (line : Line) : (s.setReceiver r line).dt = s.dt := by
  cases line <;> rfl
@[simp] theorem State.setReceiver_tt (r : Receiver) (line : Line) : (s.setReceiver r line).tt = s.tt := by
  cases line <;> rfl
@[simp] theorem State.setReceiver_rt (r : Receiver) (line : Line) : (s.setReceiver r line).rt = s.rt := by
  cases line <;> rfl
@[simp] theorem State.setReceiver_me (r : Receiver) (line : Line) : (s.setReceiver r line).me = s.me := by
  cases line <;> rfl
@[simp] theorem State.setReceiver_nv (r : Receiver) (line : Line) : (s.setReceiver r line).nv = s.nv := by
  cases line <;> rfl
@[simp] theorem State.setReceiver_ts (r : Receiver) (line : Line) : (s.setReceiver r line).ts = s.ts := by
  cases line <;> rfl
@[simp] theorem State.setReceiver_utCut (r : Receiver) (line : Line) :
    (s.setReceiver r line).utCut = s.utCut := by
  cases line <;> rfl
@[simp] theorem State.setReceiver_draws (r : Receiver) (line : Line) :
    (s.setReceiver r line).draws = s.draws := by
  cases line <;> rfl
@[simp] theorem State.setReceiver_pending (r : Receiver) (line : Line) :
    (s.setReceiver r line).pending = s.pending := by
  cases line <;> rfl

@[simp] theorem State.setReceiver_receiver (r : Receiver) (line : Line) :
    (s.setReceiver r line).receiver line = r := by
  cases line <;> rfl

theorem State.setReceiver_receiver_ne (r : Receiver) {line other : Line} (h : line ≠ other) :
    (s.setReceiver r line).receiver other = s.receiver other := by
  cases line <;> cases other <;> first | rfl | exact absurd rfl h

end Sys2Proof.Machine
end

