-- ==== Sys2Proof/Laws/Frames.lean ====
section
/-! SUPPORT. The laws of what travels on the lines: the fields of a frame read back from its bytes, the
check, the state a good frame leaves its receiver in, and what the receivers can do. -/

namespace Sys2Proof.Machine

/-! ### Two-character numbers and the Function character -/

@[simp] theorem wordOf_halves (w : Word) : wordOf (highHalf w) (lowHalf w) = w := by
  apply BitVec.eq_of_getLsbD_eq
  intro i hi
  simp only [wordOf, highHalf, lowHalf, BitVec.getLsbD_append, BitVec.getLsbD_extractLsb']
  by_cases h : i < 8
  · simp [h]
  · have h1 : i - 8 < 8 := by omega
    have h2 : 8 + (i - 8) = i := by omega
    simp [h, h1, h2]

@[simp] theorem Frame.functionByte_dir (f : Frame) : f.functionByte.getLsbD 7 = f.dir := by
  obtain ⟨a, d, e, fn, s, p⟩ := f
  cases d <;> cases e <;> simp only [Frame.functionByte, BitVec.getLsbD_append] <;> rfl

@[simp] theorem Frame.functionByte_exc (f : Frame) : f.functionByte.getLsbD 6 = f.exc := by
  obtain ⟨a, d, e, fn, s, p⟩ := f
  cases d <;> cases e <;> simp only [Frame.functionByte, BitVec.getLsbD_append] <;> rfl

@[simp] theorem Frame.functionByte_fn (f : Frame) : f.functionByte.setWidth 6 = f.fn := by
  apply BitVec.eq_of_getLsbD_eq
  intro i hi
  simp only [Frame.functionByte, BitVec.getLsbD_setWidth, BitVec.getLsbD_append]
  simp [hi]

/-- The frame record of the bytes of a frame is that frame. -/
@[simp] theorem Frame.ofBody_body (f : Frame) : Frame.ofBody f.body = f := by
  have h1 := f.functionByte_dir
  have h2 := f.functionByte_exc
  have h3 := f.functionByte_fn
  obtain ⟨a, d, e, fn, s, p⟩ := f
  simp only [Frame.ofBody, Frame.body, List.getD_cons_succ, List.getD_cons_zero, h1, h2, h3,
    List.drop_succ_cons, List.drop_zero]

@[simp] theorem Frame.body_length (f : Frame) : f.body.length = f.payload.length + 4 := by
  simp [Frame.body]

@[simp] theorem Frame.characters_length (f : Frame) : f.characters.length = f.payload.length + 6 := by
  simp [Frame.characters, Frame.bytes, Frame.body]

/-! ### The check -/

/-- A complete frame of a body and two check bytes is good exactly when the bytes are the body's check. -/
theorem completeFrame_eq (body : List Byte) (hi lo : Byte) :
    completeFrame (body ++ [hi] ++ [lo]) =
      if crc body = wordOf hi lo then .good { frame := Frame.ofBody body, check := wordOf hi lo }
      else .checkError := by
  have e : body ++ [hi] ++ [lo] = body ++ [hi, lo] := by simp
  have l1 : (body ++ [hi, lo]).length - 2 = body.length := by simp
  have l2 : (body ++ [hi, lo]).length - 1 = body.length + 1 := by simp
  have t1 : (body ++ [hi, lo]).take body.length = body := by simp
  have t2 : (body ++ [hi, lo]).getD body.length 0 = hi := by
    simp [List.getD_eq_getElem?_getD]
  have t3 : (body ++ [hi, lo]).getD (body.length + 1) 0 = lo := by
    simp [List.getD_eq_getElem?_getD]
  unfold completeFrame
  rw [e, l1, l2, t1, t2, t3]

/-- A frame's own bytes are a good frame. -/
theorem completeFrame_body (f : Frame) :
    completeFrame (f.body ++ [highHalf f.check] ++ [lowHalf f.check]) = .good f.whole := by
  rw [completeFrame_eq, wordOf_halves, if_pos (by rfl), Frame.ofBody_body]
  rfl

/-- Bits that a data bit adds to the register before it is shifted. -/
theorem crcBit_xor (a b : Word) (x y : Bool) : crcBit (a ^^^ b) (x ^^ y) = crcBit a x ^^^ crcBit b y := by
  unfold crcBit
  rw [BitVec.msb_xor, BitVec.shiftLeft_xor_distrib]
  generalize a <<< 1 = p
  generalize b <<< 1 = q
  have c1 : p ^^^ q ^^^ 0x1021#16 = p ^^^ (q ^^^ 0x1021#16) := BitVec.xor_assoc ..
  have c2 : p ^^^ 0x1021#16 ^^^ q = p ^^^ (q ^^^ 0x1021#16) := by
    rw [BitVec.xor_assoc, BitVec.xor_comm q]
  have c3 : p ^^^ 0x1021#16 ^^^ (q ^^^ 0x1021#16) = p ^^^ q := by
    rw [BitVec.xor_comm q, ← BitVec.xor_assoc, BitVec.xor_assoc p, BitVec.xor_self, BitVec.xor_zero]
  cases a.msb <;> cases b.msb <;> cases x <;> cases y <;> simp [c1, c2, c3]

/-- The check register is linear in its contents and its data. -/
theorem crcByte_xor (a b : Word) (x y : Byte) :
    crcByte (a ^^^ b) (x ^^^ y) = crcByte a x ^^^ crcByte b y := by
  simp only [crcByte, List.foldl, BitVec.getLsbD_xor, crcBit_xor]

/-! ### The part as a good frame leaves its receiver -/

section AfterFrame
variable (s : State) (line : Line) (keysw : Bool)

@[simp] theorem State.afterFrame_straps : (s.afterFrame line keysw).straps = s.straps := by cases line <;> rfl
@[simp] theorem State.afterFrame_ut : (s.afterFrame line keysw).ut = s.ut := by cases line <;> rfl
@[simp] theorem State.afterFrame_utCut : (s.afterFrame line keysw).utCut = s.utCut := by cases line <;> rfl
@[simp] theorem State.afterFrame_dt : (s.afterFrame line keysw).dt = s.dt := by cases line <;> rfl
@[simp] theorem State.afterFrame_tt : (s.afterFrame line keysw).tt = s.tt := by cases line <;> rfl
@[simp] theorem State.afterFrame_rt : (s.afterFrame line keysw).rt = s.rt := by cases line <;> rfl
@[simp] theorem State.afterFrame_nv : (s.afterFrame line keysw).nv = s.nv := by cases line <;> rfl
@[simp] theorem State.afterFrame_ts : (s.afterFrame line keysw).ts = s.ts := by cases line <;> rfl
@[simp] theorem State.afterFrame_draws : (s.afterFrame line keysw).draws = s.draws := by cases line <;> rfl
@[simp] theorem State.afterFrame_pending : (s.afterFrame line keysw).pending = s.pending := by
  cases line <;> rfl
@[simp] theorem State.afterFrame_pins :
    (s.afterFrame line keysw).pins = { s.pins with keysw := keysw } := by
  cases line <;> rfl
@[simp] theorem State.afterFrame_tag (t : Tag) : (s.afterFrame line keysw).tag t = s.tag t := by
  cases line <;> rfl
@[simp] theorem State.afterFrame_engineState : (s.afterFrame line keysw).me.state = s.me.state := by
  cases line <;> rfl
@[simp] theorem State.afterFrame_holder : (s.afterFrame line keysw).me.holder = s.me.holder := by
  cases line <;> rfl
@[simp] theorem State.afterFrame_replay : (s.afterFrame line keysw).me.replay = s.me.replay := by
  cases line <;> rfl

end AfterFrame

/-! ### The receivers -/

/-- When a receiver recognises a start bit (R2, R15). -/
theorem State.recognises_iff (s : State) (line : Line) (rested : Bool) :
    s.recognises ⟨line, rested⟩ = true ↔
      s.pins.powered = true ∧ s.pins.resetN = true ∧ (s.awaitsHigh line = false ∨ rested = true) := by
  simp [State.recognises, State.outOfReset, and_assoc]

/-- A receiver that does not wait for its pin to be high is as it is with the wait ended. -/
theorem State.setAwaitsHigh_self {s : State} {line : Line} {b : Bool} (h : s.awaitsHigh line = b) :
    s.setAwaitsHigh b line = s := by
  subst h; cases line <;> rfl

/-- A character with the part listening: not recognised, or taken (R2, R15). -/
theorem execCharacter_listening {s : State} (h : s.listening = true) (line : Line) (b : Byte)
    (lead keysw rested : Bool) :
    execCharacter ⟨line, rested⟩ b lead keysw s = .next (
      if s.recognises ⟨line, rested⟩ then
        ((s.withKey keysw).setAwaitsHigh false line).receive line ((s.receiver line).takeCharacter b lead)
      else s.withKey keysw) := by
  simp only [execCharacter, State.withKey, h, if_true]

@[simp] theorem State.receiver_setReceiver (s : State) (r : Receiver) (line : Line) :
    (s.setReceiver r line).receiver line = r := by
  cases line <;> rfl

/-- A receiver given what it holds already is unchanged. -/
theorem State.setReceiver_self {s : State} {line : Line} {r : Receiver} (h : s.receiver line = r) :
    s.setReceiver r line = s := by
  subst h; cases line <;> rfl

/-- A receiver's step keeps it in range. -/
theorem Receiver.takeCharacter_inRange {r : Receiver} (h : r.InRange) (b : Byte) (lead : Bool) :
    (r.takeCharacter b lead).1.InRange := by
  have start : (startFrame b).InRange := by simp [startFrame, Receiver.InRange]
  cases r with
  | hunt =>
    cases lead
    · trivial
    · simp [Receiver.takeCharacter, start]
  | discard =>
    cases lead
    · trivial
    · simp [Receiver.takeCharacter, start]
  | collect bytes expected running =>
    obtain ⟨h1, h2, h3⟩ := h
    cases lead
    · simp only [Receiver.takeCharacter, appendCharacter, Bool.false_eq_true, if_false]
      by_cases h4 : (bytes ++ [b]).length = 4
      · by_cases hb : Config.maxPayload < b.toNat
        · rw [if_pos ⟨h4, hb⟩]; trivial
        · have hb' : b.toNat ≤ 32 := Nat.not_lt.1 hb
          rw [if_neg (fun h => hb h.2), if_pos h4]
          split
          · trivial
          · refine ⟨by simp, by simp [h4], fun n hn => ?_⟩
            obtain rfl := Option.some.inj hn
            omega
      · rw [if_neg (fun h => h4 h.1), if_neg h4]
        split
        · trivial
        · rename_i hmore
          simp only [List.length_append, List.length_singleton] at h4 hmore
          refine ⟨by simp, ?_, fun n hn => ?_⟩
          · rw [h2]; simp; omega
          · obtain ⟨g1, g2, g3⟩ := h3 n hn
            have : n ≠ bytes.length + 1 := by
              rintro rfl; exact hmore hn
            simp only [List.length_append, List.length_singleton]
            omega
    · simp [Receiver.takeCharacter, start]

/-- What an event at a receiver can do to the part: nothing more, one count, or a good frame handed on. -/
theorem State.receive_cases (s : State) (line : Line) (x : Receiver × Arrival) :
    (x.2 = .nothing ∧ s.receive line x = s.setReceiver x.1 line)
      ∨ (x.2 = .formError ∧ s.receive line x = (s.setReceiver x.1 line).count (formErrorCounter line))
      ∨ (x.2 = .checkError ∧ s.receive line x = (s.setReceiver x.1 line).count (checkErrorCounter line))
      ∨ (∃ q, x.2 = .good q
          ∧ s.receive line x = ((s.setReceiver x.1 line).count (framesCounter line)).handOn q line) := by
  unfold State.receive State.arrive
  cases h : x.2 with
  | nothing => exact .inl ⟨rfl, rfl⟩
  | formError => exact .inr (.inl ⟨rfl, rfl⟩)
  | checkError => exact .inr (.inr (.inl ⟨rfl, rfl⟩))
  | good q => exact .inr (.inr (.inr ⟨q, rfl, rfl⟩))

/-- What UR does with a good frame: the Management Engine has it, or the Request Path (R13). -/
theorem State.handOnUpline_cases (s : State) (q : Received) :
    (q.frame.dir = false ∧ q.frame.exc = false ∧ q.frame.addr = s.mgmtAddr
        ∧ s.handOnUpline q = s.takeManagement q)
      ∨ (¬ (q.frame.dir = false ∧ q.frame.exc = false ∧ q.frame.addr = s.mgmtAddr)
          ∧ s.handOnUpline q = s.takeRequest q.frame) := by
  unfold State.handOnUpline
  split
  · rename_i h
    exact .inl ⟨h.1, h.2.1, h.2.2, rfl⟩
  · rename_i h
    exact .inr ⟨h, rfl⟩

end Sys2Proof.Machine
end

