-- ==== Sys2Proof/Laws/Memory.lean ====
section
/-! SUPPORT. The laws of the part's small memories: a vector with one place changed, and the slot map of a
bank (read after write, and the canonical form kept by every operation). -/

namespace Sys2Proof.Machine

/-! ### A vector with one place changed -/

theorem get_setAt {α : Type} {n : Nat} (v : Vector α n) (i j : Fin n) (x : α) :
    (setAt v i x).get j = if i = j then x else v.get j := by
  simp only [setAt, Vector.get_eq_getElem, Vector.getElem_set, Fin.ext_iff]

@[simp] theorem get_setAt_self {α : Type} {n : Nat} (v : Vector α n) (i : Fin n) (x : α) :
    (setAt v i x).get i = x := by
  simp [get_setAt]

theorem get_setAt_ne {α : Type} {n : Nat} (v : Vector α n) {i j : Fin n} (x : α) (h : i ≠ j) :
    (setAt v i x).get j = v.get j := by
  simp [get_setAt, h]

@[simp] theorem get_replicate {α : Type} {n : Nat} (x : α) (i : Fin n) : (Vector.replicate n x).get i = x := by
  simp [Vector.get_eq_getElem]

@[simp] theorem get_ofFn {α : Type} {n : Nat} (f : Fin n → α) (i : Fin n) : (Vector.ofFn f).get i = f i := by
  simp [Vector.get_eq_getElem]

/-! ### The slot map -/

@[simp] theorem SlotMap.read_nil (n : SlotNo) : SlotMap.read [] n = .blank := rfl

theorem SlotMap.read_cons (k n : SlotNo) (x : Slot) (m : SlotMap) :
    SlotMap.read ((k, x) :: m) n = if k = n then x else SlotMap.read m n := rfl

theorem SlotMap.read_insert (m : SlotMap) (n j : SlotNo) (x : Slot) :
    SlotMap.read (SlotMap.insert m n x) j = if n = j then x else SlotMap.read m j := by
  induction m with
  | nil => simp [SlotMap.insert, SlotMap.read]
  | cons p m ih =>
    obtain ⟨k, y⟩ := p
    simp only [SlotMap.insert]
    split
    · simp [SlotMap.read_cons]
    · split
      · subst_vars
        simp only [SlotMap.read_cons]
        split <;> rfl
      · simp only [SlotMap.read_cons, ih]
        split <;> split <;> simp_all

theorem SlotMap.read_filter (m : SlotMap) (keep : SlotNo → Bool) (j : SlotNo) :
    SlotMap.read (m.filter fun p => keep p.1) j = if keep j then SlotMap.read m j else .blank := by
  induction m with
  | nil => simp
  | cons p m ih =>
    obtain ⟨k, y⟩ := p
    rw [List.filter_cons, SlotMap.read_cons]
    cases hk : keep k <;> by_cases hj : k = j <;> simp_all [SlotMap.read_cons]

/-- Read after write: the slot written reads as written, every other slot as before. -/
theorem SlotMap.read_write (m : SlotMap) (n j : SlotNo) (x : Slot) :
    SlotMap.read (SlotMap.write m n x) j = if n = j then x else SlotMap.read m j := by
  unfold SlotMap.write
  split
  · rename_i hx
    subst hx
    have := SlotMap.read_filter m (fun k => decide (k ≠ n)) j
    simp only [this, decide_eq_true_eq]
    by_cases h : n = j
    · simp [h]
    · simp [h, Ne.symm h]
  · exact SlotMap.read_insert m n j x

@[simp] theorem SlotMap.read_write_self (m : SlotMap) (n : SlotNo) (x : Slot) :
    SlotMap.read (SlotMap.write m n x) n = x := by
  simp [SlotMap.read_write]

theorem SlotMap.read_write_ne (m : SlotMap) {n j : SlotNo} (x : Slot) (h : n ≠ j) :
    SlotMap.read (SlotMap.write m n x) j = SlotMap.read m j := by
  simp [SlotMap.read_write, h]

/-- A clearing makes its slots BLANK and leaves every other as before. -/
theorem SlotMap.read_clear (m : SlotMap) (cleared : SlotNo → Bool) (j : SlotNo) :
    SlotMap.read (SlotMap.clear m cleared) j = if cleared j then .blank else SlotMap.read m j := by
  have := SlotMap.read_filter m (fun k => !cleared k) j
  unfold SlotMap.clear
  rw [this]
  cases cleared j <;> rfl

/-! ### The canonical form -/

theorem SlotMap.wf_nil : SlotMap.Wf [] := by simp [SlotMap.Wf]

theorem SlotMap.wf_filter {m : SlotMap} (keep : SlotNo × Slot → Bool) (h : SlotMap.Wf m) :
    SlotMap.Wf (m.filter keep) :=
  ⟨h.1.filter _, fun p hp => h.2 p (List.mem_of_mem_filter hp)⟩

theorem SlotMap.mem_insert {m : SlotMap} {n : SlotNo} {x : Slot} {p : SlotNo × Slot}
    (hp : p ∈ SlotMap.insert m n x) : p = (n, x) ∨ p ∈ m := by
  induction m with
  | nil => simpa [SlotMap.insert] using hp
  | cons q m ih =>
    obtain ⟨k, y⟩ := q
    simp only [SlotMap.insert] at hp
    split at hp
    · simpa using hp
    · split at hp
      · rcases List.mem_cons.1 hp with h | h
        · exact .inl h
        · exact .inr (List.mem_cons_of_mem _ h)
      · rcases List.mem_cons.1 hp with h | h
        · exact .inr (h ▸ List.mem_cons_self)
        · rcases ih h with h' | h'
          · exact .inl h'
          · exact .inr (List.mem_cons_of_mem _ h')

theorem SlotMap.wf_insert {m : SlotMap} {n : SlotNo} {x : Slot} (hx : x ≠ .blank) (h : SlotMap.Wf m) :
    SlotMap.Wf (SlotMap.insert m n x) := by
  induction m with
  | nil => simp [SlotMap.insert, SlotMap.Wf, hx]
  | cons q m ih =>
    obtain ⟨k, y⟩ := q
    obtain ⟨hp, hb⟩ := h
    rw [List.pairwise_cons] at hp
    have hm : SlotMap.Wf m := ⟨hp.2, fun p hp' => hb p (List.mem_cons_of_mem _ hp')⟩
    simp only [SlotMap.insert]
    split
    · rename_i hlt
      refine ⟨List.pairwise_cons.2 ⟨fun p hp' => ?_, List.pairwise_cons.2 hp⟩, fun p hp' => ?_⟩
      · rcases List.mem_cons.1 hp' with rfl | h'
        · exact hlt
        · exact lt_trans hlt (hp.1 p h')
      · rcases List.mem_cons.1 hp' with rfl | h'
        · exact hx
        · exact hb p h'
    · split
      · subst_vars
        refine ⟨List.pairwise_cons.2 ⟨hp.1, hp.2⟩, fun p hp' => ?_⟩
        rcases List.mem_cons.1 hp' with rfl | h'
        · exact hx
        · exact hm.2 p h'
      · rename_i hlt hne
        have hkn : k < n := lt_of_le_of_ne (not_lt.1 hlt) (Ne.symm hne)
        refine ⟨List.pairwise_cons.2 ⟨fun p hp' => ?_, (ih hm).1⟩, fun p hp' => ?_⟩
        · rcases SlotMap.mem_insert hp' with rfl | h'
          · exact hkn
          · exact hp.1 p h'
        · rcases List.mem_cons.1 hp' with rfl | h'
          · exact hb _ List.mem_cons_self
          · exact (ih hm).2 p h'

/-- A write keeps the canonical form. -/
theorem SlotMap.wf_write {m : SlotMap} (n : SlotNo) (x : Slot) (h : SlotMap.Wf m) :
    SlotMap.Wf (SlotMap.write m n x) := by
  unfold SlotMap.write
  split
  · exact SlotMap.wf_filter _ h
  · rename_i hx
    exact SlotMap.wf_insert hx h

/-- A clearing keeps the canonical form. -/
theorem SlotMap.wf_clear {m : SlotMap} (cleared : SlotNo → Bool) (h : SlotMap.Wf m) :
    SlotMap.Wf (SlotMap.clear m cleared) := SlotMap.wf_filter _ h

theorem SlotMap.read_of_mem {m : SlotMap} (h : SlotMap.Wf m) {n : SlotNo} {x : Slot} (hm : (n, x) ∈ m) :
    SlotMap.read m n = x := by
  induction m with
  | nil => simp at hm
  | cons q m ih =>
    obtain ⟨k, y⟩ := q
    obtain ⟨hp, hb⟩ := h
    rw [List.pairwise_cons] at hp
    rcases List.mem_cons.1 hm with h' | h'
    · obtain ⟨rfl, rfl⟩ := Prod.mk.inj h'
      simp [SlotMap.read_cons]
    · have hlt : k < n := hp.1 _ h'
      rw [SlotMap.read_cons, if_neg (ne_of_lt hlt)]
      exact ih ⟨hp.2, fun p hp' => hb p (List.mem_cons_of_mem _ hp')⟩ h'

theorem SlotMap.mem_of_read {m : SlotMap} {n : SlotNo} (h : SlotMap.read m n ≠ .blank) :
    (n, SlotMap.read m n) ∈ m := by
  induction m with
  | nil => simp at h
  | cons q m ih =>
    obtain ⟨k, y⟩ := q
    simp only [SlotMap.read_cons] at h ⊢
    split
    · subst_vars; exact List.mem_cons_self
    · rename_i hne
      rw [if_neg hne] at h
      exact List.mem_cons_of_mem _ (ih h)

end Sys2Proof.Machine
end

