-- ==== Sys2Proof/Laws/Ops.lean ====
section
/-! SUPPORT. For each shared operation that tests something, one lemma that says once everything it can
do, to be cited in place of unfolding it: the counters, the queues, the end of a record, the admission of
requests, the meeting of replies, the transmitters and the restart. -/

namespace Sys2Proof.Machine

/-! ### Counters -/

theorem Counter.number_injective {c d : Counter} (h : c.number = d.number) : c = d := by
  revert h
  cases c <;> cases d <;> first | (intro _; rfl) | (intro h; exact absurd h (by decide))

/-- What counting once makes of each counter. -/
theorem State.counter_count (s : State) (c d : Counter) :
    (s.count c).counter d = if d = c then bump (s.counter c) else s.counter d := by
  simp only [State.counter, State.count, get_setAt]
  by_cases h : d = c
  · subst h; simp
  · rw [if_neg (fun e => h (Counter.number_injective e).symm), if_neg h]

@[simp] theorem State.count_tag (s : State) (c : Counter) (t : Tag) : (s.count c).tag t = s.tag t := rfl

/-! ### Tags -/

theorem State.tag_setTag (s : State) (t u : Tag) (x : TagState) :
    (s.setTag t x).tag u = if t = u then x else s.tag u := get_setAt _ _ _ _

theorem State.tag_freeTag (s : State) (t u : Tag) :
    (s.freeTag t).tag u = if t = u then .free else s.tag u := get_setAt _ _ _ _

/-- Recording in a tag what it holds already changes nothing. -/
theorem State.setTag_self {s : State} {t : Tag} {x : TagState} (h : s.tag t = x) : s.setTag t x = s := by
  have : setAt s.tt.tags t x = s.tt.tags := by
    rw [← h]; simp [setAt, State.tag, Vector.get_eq_getElem]
  simp [State.setTag, this]

/-- What DT's report makes of a tag, by the state the tag is in. -/
theorem TagState.reportedSent_cases (x : TagState) :
    (∃ r, x = .busy r ∧ r.state = .sending ∧ x.reportedSent = .busy { r with state := .awaitReply })
      ∨ (∃ captured, x = .releasing captured ∧ x.reportedSent = .quarantine captured)
      ∨ ((∀ captured, x ≠ .releasing captured) ∧ (∀ r, x = .busy r → r.state ≠ .sending)
          ∧ x.reportedSent = x) := by
  cases x with
  | busy r =>
    by_cases h : r.state = .sending
    · exact .inl ⟨r, rfl, h, by simp [TagState.reportedSent, h]⟩
    · refine .inr (.inr ⟨by simp, fun q hq => ?_, by simp [TagState.reportedSent, h]⟩)
      obtain rfl := TagState.busy.inj hq
      exact h
  | releasing c => exact .inr (.inl ⟨c, rfl, rfl⟩)
  | free => exact .inr (.inr ⟨by simp, by simp, rfl⟩)
  | quarantine c => exact .inr (.inr ⟨by simp, by simp, rfl⟩)
  | quiet => exact .inr (.inr ⟨by simp, by simp, rfl⟩)

/-! ### The Upline Transmit Queue -/

theorem State.upRoom_iff (s : State) : s.upRoom = true ↔ s.rt.uq.length < 16 := by
  unfold State.upRoom
  rw [decide_eq_true_iff]
  rfl

/-- The offer of a synthesized reply appends it with room and counts it lost without. -/
theorem State.offerSynthesized_cases (s : State) (f : Frame) :
    (s.rt.uq.length < 16 ∧ s.offerSynthesized f = s.enqueueUp f)
      ∨ (16 ≤ s.rt.uq.length ∧ s.offerSynthesized f = s.count .upOverflow) := by
  by_cases h : s.rt.uq.length < 16
  · exact .inl ⟨h, by simp [State.offerSynthesized, (s.upRoom_iff).2 h]⟩
  · exact .inr ⟨Nat.not_lt.1 h, by simp [State.offerSynthesized, mt (s.upRoom_iff).1 h]⟩

/-- The offer of a management reply appends it with room and puts it in the holder without. -/
theorem State.offerManagement_cases (s : State) (f : Frame) :
    (s.rt.uq.length < 16 ∧ s.offerManagement f = s.enqueueUp f)
      ∨ (16 ≤ s.rt.uq.length
          ∧ s.offerManagement f = { s with me := { s.me with holder := some f } }) := by
  by_cases h : s.rt.uq.length < 16
  · exact .inl ⟨h, by simp [State.offerManagement, (s.upRoom_iff).2 h]⟩
  · exact .inr ⟨Nat.not_lt.1 h, by simp [State.offerManagement, mt (s.upRoom_iff).1 h]⟩

/-! ### The end of a record -/

theorem State.sendingTag_iff (s : State) (t : Tag) :
    s.sendingTag t = true ↔ ∃ d, s.dt = some d ∧ d.current = .tracked t := by
  unfold State.sendingTag
  cases s.dt <;> simp

/-- A record's end changes its tag's state, and the free list where the tag becomes FREE. -/
theorem State.endRecord_cases (s : State) (t : Tag) (r : Record) (o : Origin) :
    (s.sendingTag t = true ∧ s.endRecord t r o = s.setTag t (.releasing r.quarantine))
      ∨ (s.sendingTag t = false ∧ r.retransmissions = 0 ∧ o = .station ∧ s.endRecord t r o = s.freeTag t)
      ∨ (s.sendingTag t = false ∧ ¬ (r.retransmissions = 0 ∧ o = .station)
          ∧ s.endRecord t r o = s.setTag t (.quarantine r.quarantine)) := by
  unfold State.endRecord
  cases h : s.sendingTag t
  · by_cases h' : r.retransmissions = 0 ∧ o = .station
    · exact .inr (.inl ⟨rfl, h'.1, h'.2, by simp [h'.1, h'.2]⟩)
    · exact .inr (.inr ⟨rfl, h', by simp [h']⟩)
  · exact .inl ⟨rfl, by simp⟩

/-- The end of a record in the terms of the statements. -/
theorem State.endRecord_eq_release (s : State) (t : Tag) (r : Record) (o : Origin) :
    s.endRecord t r o = s.release t r.quarantine (decide (r.retransmissions = 0 ∧ o = .station)) := by
  simp [State.endRecord, State.release]

/-- A delivery appends the reply and ends the record with room, and holds the reply without. -/
theorem State.deliver_cases (s : State) (t : Tag) (r : Record) (reply : Frame) (o : Origin) :
    (s.rt.uq.length < 16 ∧ s.deliver t r reply o = (s.enqueueUp reply).endRecord t r o)
      ∨ (16 ≤ s.rt.uq.length ∧ s.deliver t r reply o =
          { s with
            tt := { s.tt with tags := setAt s.tt.tags t (.busy { r with state := .held reply o }) }
            rt := { s.rt with holdList := s.rt.holdList ++ [t] } }) := by
  by_cases h : s.rt.uq.length < 16
  · exact .inl ⟨h, by simp [State.deliver, (s.upRoom_iff).2 h]⟩
  · exact .inr ⟨Nat.not_lt.1 h, by simp [State.deliver, mt (s.upRoom_iff).1 h, State.setTag]⟩

/-! ### Admission -/

/-- A request is a duplicate when some record has its upline key (R51). -/
theorem State.duplicate_iff (s : State) (f : Frame) :
    s.duplicate f = true ↔
      ∃ t r, s.tag t = .busy r ∧ r.upAddr = f.addr ∧ r.upFn = f.fn ∧ r.upTag = f.seq := by
  simp only [State.duplicate, List.any_eq_true, Vector.mem_toList_iff, Vector.mem_iff_getElem]
  constructor
  · rintro ⟨x, ⟨i, hi, rfl⟩, hx⟩
    cases hy : s.tt.tags[i] with
    | busy r =>
      simp only [hy, TagState.hasKey, Record.hasKey, Bool.and_eq_true, decide_eq_true_eq] at hx
      exact ⟨⟨i, hi⟩, r, by simp [State.tag, Vector.get_eq_getElem, hy], hx.1.1, hx.1.2, hx.2⟩
    | free => simp [hy, TagState.hasKey] at hx
    | releasing c => simp [hy, TagState.hasKey] at hx
    | quarantine c => simp [hy, TagState.hasKey] at hx
    | quiet => simp [hy, TagState.hasKey] at hx
  · rintro ⟨t, r, ht, h1, h2, h3⟩
    refine ⟨.busy r, ⟨t.val, t.isLt, by simpa [State.tag, Vector.get_eq_getElem] using ht⟩, ?_⟩
    simp [TagState.hasKey, Record.hasKey, h1, h2, h3]

theorem Frame.requestClass_foreign {f : Frame} (h : f.dir = true ∨ f.exc = true ∨ 0xF0#8 ≤ f.addr) :
    f.requestClass = .foreign := by
  have : (f.dir || f.exc || decide (0xF0#8 ≤ f.addr)) = true := by rcases h with h | h | h <;> simp [h]
  simp [Frame.requestClass, this]

theorem Frame.requestClass_broadcast {f : Frame} (hd : f.dir = false) (he : f.exc = false)
    (h : f.addr = 0) : f.requestClass = .broadcast := by
  simp [Frame.requestClass, hd, he, h]

theorem Frame.requestClass_station {f : Frame} (hd : f.dir = false) (he : f.exc = false)
    (h1 : 1#8 ≤ f.addr) (h2 : f.addr ≤ 0xEF#8) : f.requestClass = .station := by
  have h3 : ¬ 0xF0#8 ≤ f.addr := by
    simp only [BitVec.le_def] at *
    simp at *
    omega
  have h4 : ¬ f.addr = 0#8 := by
    intro h; rw [h] at h1; exact absurd h1 (by decide)
  simp [Frame.requestClass, hd, he, h3, h4]

/-- A FORWARD request is answered OVERSIZE, answered CONGESTED, or admitted (R58, R59, R61). -/
theorem State.forward_cases (s : State) (v : Service) (n : SlotNo) (p : ForwardParams) (f : Frame) :
    (32 < p.front.length + f.payload.length
        ∧ s.forward v n p f = s.answer .notForwarded (f.exception .oversize))
      ∨ (p.front.length + f.payload.length ≤ 32 ∧ s.tt.freeList = []
          ∧ s.forward v n p f = s.answer .congested (f.exception .congested))
      ∨ (∃ t rest, p.front.length + f.payload.length ≤ 32 ∧ s.tt.freeList = t :: rest
          ∧ s.forward v n p f = s.admitRecord t rest (v.recordFor n p f)) := by
  unfold State.forward
  simp only [ForwardParams.payloadFor, Config.maxPayload, List.length_append]
  by_cases h : 32 < p.front.length + f.payload.length
  · exact .inl ⟨h, by simp [h]⟩
  · cases hl : s.tt.freeList with
    | nil => exact .inr (.inl ⟨Nat.not_lt.1 h, rfl, by simp [h]⟩)
    | cons t rest => exact .inr (.inr ⟨t, rest, Nat.not_lt.1 h, rfl, by simp [h]⟩)

/-- What a station request that passes to lookup can do (R53 to R61). -/
theorem State.translate_cases (s : State) (v : Service) (f : Frame) :
    s.translate v f = s.count .notForwarded
      ∨ (∃ exc payload, s.translate v f = s.answer .notForwarded (f.reply exc payload))
      ∨ (∃ n e p, (s.nv.bank v.active).lookup f.addr f.fn = some (n, e) ∧ e.action = .forward p
          ∧ s.translate v f = s.forward v n p f) := by
  unfold State.translate
  cases hl : (s.nv.bank v.active).lookup f.addr f.fn with
  | none =>
    cases hm : v.header.missAction
    · exact .inl (by simp)
    · exact .inr (.inl ⟨true, Reason.noEntry.payload, by simp [Frame.exception]⟩)
  | some x =>
    obtain ⟨n, e⟩ := x
    cases ha : e.action with
    | forward p => exact .inr (.inr ⟨n, e, p, rfl, ha, by simp [ha]⟩)
    | answer cs => exact .inr (.inl ⟨false, cs, by simp [ha]⟩)
    | reject r => exact .inr (.inl ⟨true, (Reason.rejected r).payload, by simp [ha, Frame.exception]⟩)
    | drop => exact .inl (by simp [ha])

/-- What a broadcast can do (R63 to R65). -/
theorem State.broadcastRequest_cases (s : State) (f : Frame) :
    s.broadcastRequest f = s ∨ s.broadcastRequest f = s.count .notForwarded
      ∨ s.broadcastRequest f = s.count .congested
      ∨ (∃ p : ForwardParams, s.tt.dq.countP DqEntry.isUntracked < 16
          ∧ s.broadcastRequest f = s.enqueueDown (.untracked (p.broadcastFrame f))) := by
  unfold State.broadcastRequest
  split
  · exact .inl rfl
  · exact .inr (.inl rfl)
  · split
    · rename_i p _
      unfold State.forwardBroadcast
      split
      · exact .inr (.inl rfl)
      · split
        · rename_i h
          exact .inr (.inr (.inr ⟨p, h, rfl⟩))
        · exact .inr (.inr (.inl rfl))
    · exact .inr (.inl rfl)

/-! ### Replies -/

theorem Record.accepts_iff (r : Record) (f : Frame) :
    r.accepts f = true ↔ f.addr = r.downAddr ∧ f.fn = r.downFn := by
  simp [Record.accepts]

/-- What a reply that names a tag can do: one count, or the delivery of the shaped reply (R85 to R90). -/
theorem State.matchReply_cases (s : State) (t : Tag) (f : Frame) :
    s.matchReply t f = s.count .strayReplies ∨ s.matchReply t f = s.count .lateReplies
      ∨ (∃ r, s.tag t = .busy r ∧ r.accepts f = true
          ∧ ((r.state = .awaitReply ∧ s.matchReply t f = s.deliver t r (r.shape f) .station)
            ∨ (r.state = .waitLine ∧ s.matchReply t f = (s.withdraw t).deliver t r (r.shape f) .station)
            ∨ (r.state = .sending ∧ s.matchReply t f = s.deliver t r (r.shape f) .stationInSending))) := by
  unfold State.matchReply
  cases ht : s.tag t with
  | free => exact .inl rfl
  | releasing c => exact .inr (.inl rfl)
  | quarantine c => exact .inr (.inl rfl)
  | quiet => exact .inr (.inl rfl)
  | busy r =>
    by_cases ha : r.accepts f = true
    · unfold State.acceptReply
      cases hs : r.state with
      | held x o => exact .inr (.inl (by simp [ha, hs]))
      | awaitReply => exact .inr (.inr ⟨r, rfl, ha, .inl ⟨hs, by simp [ha, hs]⟩⟩)
      | waitLine => exact .inr (.inr ⟨r, rfl, ha, .inr (.inl ⟨hs, by simp [ha, hs]⟩)⟩)
      | sending => exact .inr (.inr ⟨r, rfl, ha, .inr (.inr ⟨hs, by simp [ha, hs]⟩)⟩)
    · exact .inl (by simp [ha])

/-! ### The transmitters -/

/-- The arbiter's three ways to fill the freed place, or to leave it (R109, R110). -/
theorem State.arbitrate_next {s t : State} (h : s.arbitrate = .next t) :
    (∃ f, s.me.holder = some f ∧ t = { s with me := { s.me with holder := none } }.enqueueUp f)
      ∨ (s.me.holder = none ∧ s.rt.holdList = [] ∧ t = s)
      ∨ (∃ g rest r reply o, s.me.holder = none ∧ s.rt.holdList = g :: rest ∧ s.tag g = .busy r
          ∧ r.state = .held reply o
          ∧ t = ({ s with rt := { s.rt with holdList := rest } }.enqueueUp reply).endRecord g r o) := by
  unfold State.arbitrate at h
  cases hh : s.me.holder with
  | some f =>
    rw [hh] at h
    exact .inl ⟨f, rfl, by simpa using h.symm⟩
  | none =>
    rw [hh] at h
    cases hl : s.rt.holdList with
    | nil =>
      rw [hl] at h
      exact .inr (.inl ⟨rfl, rfl, by simpa using h.symm⟩)
    | cons g rest =>
      simp only [hl, State.moveHeld] at h
      split at h
      · rename_i r hr
        split at h
        · rename_i reply o hs
          exact .inr (.inr ⟨g, rest, r, reply, o, rfl, rfl, hr, hs, by simpa using h.symm⟩)
        · cases h
      · cases h

/-- DT's taking of a tracked entry (R78). -/
theorem State.sendTracked_next {s t : State} {g : Tag} (h : s.sendTracked g = .next t) :
    ∃ r, s.tag g = .busy r ∧ t = { s.setTag g (.busy { r with state := .sending }) with
      dt := some (DownFlight.start (r.downFrame g) (.tracked g)) } := by
  unfold State.sendTracked at h
  split at h
  · rename_i r hr
    exact ⟨r, hr, by simpa using h.symm⟩
  · cases h

/-! ### The restart (R23, R185) -/

/-- A restart after UT's taking is the restart, with the start of UT's frame left on the line. -/
theorem State.restartCutsShort_cases (s : State) :
    (s.ut = none ∧ s.restartCutsShort = s.restart)
      ∨ ∃ x, s.ut = some x ∧ s.restartCutsShort = { s.restart with
          utCut := some { frame := x.frame, bits := Config.cutBits s.draws + 1 }
          draws := s.draws + 1 } := by
  unfold State.restartCutsShort
  split
  · exact .inr ⟨_, ‹_›, rfl⟩
  · exact .inl ⟨‹_›, rfl⟩

/-- What takes place once UT has taken its head: the restart, if it is due. -/
theorem settled_next (s : State) :
    settled (.next s) = .next (if s.me.state = .restartDue then s.restartCutsShort else s) := rfl

/-- The report of the RESTART reply is the restart, or leaves it due where UT takes its next head first. -/
theorem State.restartReported_cases (s : State) :
    ((s.pending.head? ≠ some .utTake ∨ s.rt.uq = []) ∧ s.restartReported = s.restart)
      ∨ (s.pending.head? = some .utTake ∧ s.rt.uq ≠ []
          ∧ s.restartReported = { s with ut := none, me := { s.me with state := .restartDue } }) := by
  unfold State.restartReported
  split
  · rename_i h
    exact .inr ⟨h.1, h.2, rfl⟩
  · rename_i h
    exact .inl ⟨(not_and_or.mp h).imp_right not_not.mp, rfl⟩

/-- What a step with no command waiting does: the restart that is due, or one character time. -/
theorem State.tick_cases (s : State) :
    (s.me.state = .restartDue ∧ s.tick = s.restart)
      ∨ (s.me.state ≠ .restartDue ∧ s.tick = s.sendCharacters) := by
  unfold State.tick
  split
  · exact .inl ⟨‹_›, rfl⟩
  · exact .inr ⟨‹_›, rfl⟩

/-- A restart sweeps what the end of a record changes. -/
@[simp] theorem State.endRecord_restart (s : State) (t : Tag) (r : Record) (o : Origin) :
    (s.endRecord t r o).restart = s.restart := by
  unfold State.endRecord
  split
  · rfl
  · split <;> rfl

/-! ### The flush -/

theorem State.tag_flush (s : State) (t : Tag) : s.flush.tag t = (s.tag t).flushed (s.sendingTag t) := by
  simp [State.flush, State.tag]

end Sys2Proof.Machine
end

