-- ==== Sys2Proof/Laws/Store.lean ====
section
/-! SUPPORT. The laws of the Table Store: the fields of a bank after each update, what each shared
operation over the operation in flight can do, and the inversion of each command's intake. -/

namespace Sys2Proof.Machine

/-! ### Banks -/

theorem Nonvolatile.bank_mapBank (v : Nonvolatile) (f : Bank → Bank) (b c : BankId) :
    (v.mapBank f b).bank c = if b = c then f (v.bank b) else v.bank c := by
  cases b <;> cases c <;> rfl

@[simp] theorem Nonvolatile.cell_mapBank (v : Nonvolatile) (f : Bank → Bank) (b : BankId) (c : CellId) :
    (v.mapBank f b).cell c = v.cell c := by
  cases b <;> cases c <;> rfl

@[simp] theorem Nonvolatile.bank_setCell (v : Nonvolatile) (x : PointerCell) (c : CellId) (b : BankId) :
    (v.setCell x c).bank b = v.bank b := by
  cases b <;> cases c <;> rfl

theorem Nonvolatile.cell_setCell (v : Nonvolatile) (x : PointerCell) (c d : CellId) :
    (v.setCell x c).cell d = if c = d then x else v.cell d := by
  cases c <;> cases d <;> rfl

theorem otherBank_ne (b : BankId) : otherBank b ≠ b := by cases b <;> decide

theorem CellId.other_ne (c : CellId) : c.other ≠ c := by cases c <;> decide

theorem Bank.slot_setSlot (k : Bank) (n j : SlotNo) (x : Slot) :
    (k.setSlot n x).slot j = if n = j then x else k.slot j := SlotMap.read_write _ _ _ _

@[simp] theorem Bank.header_setSlot (k : Bank) (n : SlotNo) (x : Slot) : (k.setSlot n x).header = k.header := rfl
@[simp] theorem Bank.segments_setSlot (k : Bank) (n : SlotNo) (x : Slot) :
    (k.setSlot n x).segments = k.segments := rfl
@[simp] theorem Bank.locks_setSlot (k : Bank) (n : SlotNo) (x : Slot) : (k.setSlot n x).locks = k.locks := rfl

@[simp] theorem Bank.slot_setHeader (k : Bank) (x : Element Header) (j : SlotNo) :
    (k.setHeader x).slot j = k.slot j := rfl
@[simp] theorem Bank.slots_setHeader (k : Bank) (x : Element Header) : (k.setHeader x).slots = k.slots := rfl
@[simp] theorem Bank.header_setHeader (k : Bank) (x : Element Header) : (k.setHeader x).header = x := rfl
@[simp] theorem Bank.segments_setHeader (k : Bank) (x : Element Header) :
    (k.setHeader x).segments = k.segments := rfl
@[simp] theorem Bank.locks_setHeader (k : Bank) (x : Element Header) : (k.setHeader x).locks = k.locks := rfl

@[simp] theorem Bank.slot_setCondition (k : Bank) (n : SegmentNo) (c : SegmentCondition) (j : SlotNo) :
    (k.setCondition n c).slot j = k.slot j := rfl
@[simp] theorem Bank.slots_setCondition (k : Bank) (n : SegmentNo) (c : SegmentCondition) :
    (k.setCondition n c).slots = k.slots := rfl
@[simp] theorem Bank.header_setCondition (k : Bank) (n : SegmentNo) (c : SegmentCondition) :
    (k.setCondition n c).header = k.header := rfl
@[simp] theorem Bank.locks_setCondition (k : Bank) (n : SegmentNo) (c : SegmentCondition) :
    (k.setCondition n c).locks = k.locks := rfl
theorem Bank.segment_setCondition (k : Bank) (n m : SegmentNo) (c : SegmentCondition) :
    (k.setCondition n c).segments.get m = if n = m then c else k.segments.get m := get_setAt _ _ _ _

@[simp] theorem Bank.slot_setLock (k : Bank) (n : SegmentNo) (lock : Bool) (j : SlotNo) :
    (k.setLock n lock).slot j = k.slot j := rfl
@[simp] theorem Bank.slots_setLock (k : Bank) (n : SegmentNo) (lock : Bool) :
    (k.setLock n lock).slots = k.slots := rfl
@[simp] theorem Bank.header_setLock (k : Bank) (n : SegmentNo) (lock : Bool) :
    (k.setLock n lock).header = k.header := rfl
@[simp] theorem Bank.segments_setLock (k : Bank) (n : SegmentNo) (lock : Bool) :
    (k.setLock n lock).segments = k.segments := rfl
theorem Bank.lock_setLock (k : Bank) (n m : SegmentNo) (lock : Bool) :
    (k.setLock n lock).locks.get m = if n = m then lock else k.locks.get m := get_setAt _ _ _ _

/-- The slots of a bank after a segment erase (R126). -/
theorem Bank.slot_segmentErased (k : Bank) (n : SegmentNo) (override : Bool) (j : SlotNo) :
    (k.segmentErased n override).slot j = if segmentOf j = n then .blank else k.slot j := by
  simp only [Bank.slot, Bank.segmentErased, SlotMap.read_clear, decide_eq_true_eq]

/-- What a whole bank holds, said of its list: a property of every entry listed is one of every slot that
reads VALID. -/
theorem Bank.valid_of_all {k : Bank} {P : Entry → Prop} (h : ∀ p ∈ k.slots, ∀ e, p.2 = .valid e → P e)
    (n : SlotNo) (e : Entry) (hn : k.slot n = .valid e) : P e := by
  have hm := SlotMap.mem_of_read (m := k.slots) (n := n) (by
    rw [show SlotMap.read k.slots n = .valid e from hn]; simp)
  exact h _ hm e hn

/-! ### What an interruption or a read during an erase draws -/

/-- Reading a running erase changes nothing but slots, or the header, that the erase is clearing. -/
theorem State.eraseProgress_frame (s : State) :
    s.eraseProgress = { s with nv := s.eraseProgress.nv, draws := s.eraseProgress.draws }
      ∧ s.eraseProgress.nv.cell0 = s.nv.cell0 ∧ s.eraseProgress.nv.cell1 = s.nv.cell1 := by
  unfold State.eraseProgress
  split
  · rename_i b _ _
    exact ⟨rfl, by cases b <;> rfl, by cases b <;> rfl⟩
  · rename_i b _
    exact ⟨rfl, by cases b <;> rfl, by cases b <;> rfl⟩
  · exact ⟨rfl, rfl, rfl⟩

/-- With no erase running there is nothing to draw. -/
theorem State.eraseProgress_idle {s : State} (h : s.ts.op.bind StoreOp.erasing = none) :
    s.eraseProgress = s := by
  unfold State.eraseProgress; rw [h]

/-! ### The operation in flight -/

theorem State.storeTests_busy {s : State} {x : Except Declined State} (h : s.ts.op.isSome = true) :
    s.storeTests x = .error .busy := by simp [State.storeTests, h]

theorem State.storeTests_faulted {s : State} {x : Except Declined State} (h : s.ts.op = none)
    (hf : s.ts.faultLatch = true) : s.storeTests x = .error .faulted := by simp [State.storeTests, h, hf]

theorem State.storeTests_passed {s : State} {x : Except Declined State} (h : s.ts.op = none)
    (hf : s.ts.faultLatch = false) : s.storeTests x = x := by simp [State.storeTests, h, hf]

/-- A store command that is accepted has passed both tests (R122). -/
theorem State.storeTests_ok {s t : State} {x : Except Declined State} (h : s.storeTests x = .ok t) :
    s.ts.op = none ∧ s.ts.faultLatch = false ∧ x = .ok t := by
  unfold State.storeTests at h
  split at h
  · cases h
  · rename_i h1
    split at h
    · cases h
    · rename_i h2
      exact ⟨by simpa using h1, by simpa using h2, h⟩

theorem State.programNext_cases (s : State) (b : BankId) (next : Option (SlotNo × Entry)) :
    (∃ n e, next = some (n, e) ∧ s.programNext b next = s.beginSlotWrite b n (.programStage b n e))
      ∨ (next = none ∧ s.programNext b next = s.completeStage .ok) := by
  cases next with
  | none => exact .inr ⟨rfl, rfl⟩
  | some x => exact .inl ⟨x.1, x.2, rfl, rfl⟩

theorem State.copyNext_cases (s : State) (b : BankId) (g : SegmentNo) (next : Option (SlotNo × Entry)) :
    (∃ n e, next = some (n, e) ∧ s.copyNext b g next = s.beginSlotWrite b n (.copySegment b g n e))
      ∨ (next = none ∧ s.copyNext b g next = s.complete .ok) := by
  cases next with
  | none => exact .inr ⟨rfl, rfl⟩
  | some x => exact .inl ⟨x.1, x.2, rfl, rfl⟩

/-- The lowest number that passes a test is what a search finds. -/
theorem find_lowest {p : Fin 8 → Bool} {i : Fin 8} (hi : p i = true)
    (hj : ∀ j : Fin 8, j.val < i.val → p j = false) : (List.finRange 8).find? p = some i := by
  rw [List.find?_eq_some_iff_getElem]
  refine ⟨hi, i.val, by simp, by simp, fun j hlt => ?_⟩
  simp only [List.getElem_finRange, Bool.not_eq_true']
  exact hj _ (by simpa using hlt)

/-- ERASE BANK completes when it would skip every segment left (R137, R138). -/
theorem State.eraseNext_none {s : State} {b : BankId} {override : Bool} {from' : Nat}
    (h : ∀ m : SegmentNo, ¬ (from' ≤ m.val ∧ (override = true ∨ s.locked b m = false))) :
    s.eraseNext b override from' = s.complete .ok := by
  unfold State.eraseNext
  rw [List.find?_eq_none.2]
  intro m _
  have := h m
  simpa only [Bool.and_eq_true, decide_eq_true_eq, Bool.or_eq_true, Bool.not_eq_true'] using this

/-- ERASE BANK goes on with the lowest segment that it does not skip (R137, R138). -/
theorem State.eraseNext_some {s : State} {b : BankId} {override : Bool} {from' : Nat} {m : SegmentNo}
    (hm : from' ≤ m.val ∧ (override = true ∨ s.locked b m = false))
    (hj : ∀ j : SegmentNo, j.val < m.val → ¬ (from' ≤ j.val ∧ (override = true ∨ s.locked b j = false))) :
    s.eraseNext b override from' = s.beginSegmentErase b m (.eraseBank b override (.segment m)) := by
  unfold State.eraseNext
  rw [find_lowest (i := m)]
  · simpa only [Bool.and_eq_true, decide_eq_true_eq, Bool.or_eq_true, Bool.not_eq_true'] using hm
  · intro j hlt
    have := hj j hlt
    rw [← Bool.not_eq_true]
    simpa only [Bool.and_eq_true, decide_eq_true_eq, Bool.or_eq_true, Bool.not_eq_true'] using this

/-- Whether it goes on or completes, ERASE BANK's next stage is one of these two. -/
theorem State.eraseNext_cases (s : State) (b : BankId) (override : Bool) (from' : Nat) :
    (∃ m : SegmentNo, (override = true ∨ s.locked b m = false)
        ∧ s.eraseNext b override from' = s.beginSegmentErase b m (.eraseBank b override (.segment m)))
      ∨ s.eraseNext b override from' = s.complete .ok := by
  unfold State.eraseNext
  cases h : (List.finRange 8).find? fun n => decide (from' ≤ n.val) && (override || !s.locked b n) with
  | none => exact .inr rfl
  | some m =>
    have := List.find?_some h
    simp only [Bool.and_eq_true, Bool.or_eq_true, Bool.not_eq_true'] at this
    exact .inl ⟨m, this.2, rfl⟩

/-- The first staged entry of a page (R131). -/
theorem nextStaged_lowest {p : PageNo} {entries : Vector (Option Entry) 8} {i : Fin 8} {e : Entry}
    (h : entries.get i = some e) (hj : ∀ j : Fin 8, j.val < i.val → entries.get j = none) :
    nextStaged p entries 0 = some (slotAt p i, e) := by
  have hsplit : List.finRange 8 = (List.finRange 8).take i.val ++ i :: (List.finRange 8).drop (i.val + 1) := by
    have := List.take_append_drop i.val (List.finRange 8)
    rw [List.drop_eq_getElem_cons (by simp)] at this
    simpa using this.symm
  have hnone : ((List.finRange 8).take i.val).findSome?
      (fun i => (entries.get i).map fun e => (slotAt p i, e)) = none := by
    rw [List.findSome?_eq_none_iff]
    intro x hx
    obtain ⟨k, hk, rfl⟩ := List.mem_iff_getElem.1 hx
    simp only [List.length_take, List.length_finRange] at hk
    rw [hj _ (by simp; omega)]
    rfl
  unfold nextStaged
  simp only [Nat.zero_le, if_true]
  rw [hsplit, List.findSome?_append, hnone]
  simp [h]

/-! ### The commands at their intake -/

/-- A reply made from a store command's answer: the state reached, or a refusal with the state as it was. -/
theorem State.storeReply_cases (s : State) (payload : State → List Byte) (x : Except Declined State) :
    (∃ t, x = .ok t ∧ s.storeReply payload x = (.normal (payload t), t))
      ∨ (∃ d, x = .error d ∧ s.storeReply payload x = (.refusal d, s)) := by
  cases x with
  | ok t => exact .inl ⟨t, rfl, rfl⟩
  | error d => exact .inr ⟨d, rfl, rfl⟩

theorem State.stageEntry_ok {s t : State} {n : SlotNo} {image : List Byte}
    (h : s.stageEntry n image = .ok t) :
    ∃ e b, Entry.ofImage image = some e ∧ s.ts.op = none ∧ s.ts.staging.stage n e = some b
      ∧ t = { s with ts := { s.ts with staging := b } } := by
  unfold State.stageEntry at h
  cases he : Entry.ofImage image with
  | none => rw [he] at h; cases h
  | some e =>
    simp only [he] at h
    split at h
    · cases h
    · rename_i ho
      cases hb : s.ts.staging.stage n e with
      | none => rw [hb] at h; cases h
      | some b =>
        rw [hb] at h
        exact ⟨e, b, rfl, by simpa using ho, hb, (Except.ok.inj h).symm⟩

theorem State.discardStage_ok {s t : State} (h : s.discardStage = .ok t) :
    s.ts.op = none ∧ t = { s with ts := { s.ts with staging := .empty } } := by
  unfold State.discardStage at h
  split at h
  · cases h
  · rename_i ho
    exact ⟨by simpa using ho, (Except.ok.inj h).symm⟩

theorem State.programStage_ok {s t : State} (h : s.programStage = .ok t) :
    ∃ p entries, s.ts.op = none ∧ s.ts.faultLatch = false ∧ s.ts.staging = .page p entries
      ∧ s.locked s.standby (segmentOfPage p) = false
      ∧ (((s.nv.bank s.standby).pageBlank p entries = true
            ∧ t = (s.accept .programStage).programNext s.standby (nextStaged p entries 0))
          ∨ ((s.nv.bank s.standby).pageBlank p entries = false
            ∧ t = (s.accept .programStage).completeStage .notBlank)) := by
  obtain ⟨ho, hf, h⟩ := State.storeTests_ok h
  split at h
  · cases h
  · rename_i p entries hs
    split at h
    · cases h
    · rename_i hl
      refine ⟨p, entries, ho, hf, hs, by simpa using hl, ?_⟩
      simp only at h
      split at h
      · rename_i hb
        exact .inl ⟨hb, (Except.ok.inj h).symm⟩
      · rename_i hb
        exact .inr ⟨by simpa using hb, (Except.ok.inj h).symm⟩

theorem State.programHeader_ok {s t : State} {image : List Byte} (h : s.programHeader image = .ok t) :
    ∃ x, Header.ofImage image = some x ∧ s.ts.op = none ∧ s.ts.faultLatch = false
      ∧ (((s.nv.bank s.standby).header = .blank
            ∧ t = ((s.accept .programHeader).mapBank s.standby fun k => k.setHeader .programming).setOp
              (some (.programHeader s.standby x)))
          ∨ ((s.nv.bank s.standby).header ≠ .blank ∧ t = (s.accept .programHeader).complete .notBlank)) := by
  unfold State.programHeader at h
  cases hx : Header.ofImage image with
  | none => rw [hx] at h; cases h
  | some x =>
    rw [hx] at h
    obtain ⟨ho, hf, h⟩ := State.storeTests_ok h
    refine ⟨x, rfl, ho, hf, ?_⟩
    simp only at h
    split at h
    · rename_i hb
      exact .inl ⟨hb, (Except.ok.inj h).symm⟩
    · rename_i hb
      exact .inr ⟨hb, (Except.ok.inj h).symm⟩

theorem State.eraseSegment_ok {s t : State} {n : SegmentNo} {flag : Byte}
    (h : s.eraseSegment n flag = .ok t) :
    ∃ override, overrideOf flag = some override ∧ s.ts.op = none ∧ s.ts.faultLatch = false
      ∧ s.permitted override = true ∧ (override = true ∨ s.locked s.standby n = false)
      ∧ t = (s.accept .eraseSegment).beginSegmentErase s.standby n (.eraseSegment s.standby n override) := by
  unfold State.eraseSegment at h
  cases hx : overrideOf flag with
  | none => rw [hx] at h; cases h
  | some override =>
    rw [hx] at h
    obtain ⟨ho, hf, h⟩ := State.storeTests_ok h
    split at h
    · cases h
    · rename_i hp
      split at h
      · cases h
      · rename_i hl
        refine ⟨override, rfl, ho, hf, by simpa using hp, ?_, (Except.ok.inj h).symm⟩
        cases override <;> simp_all

theorem State.eraseBank_ok {s t : State} {flag : Byte} (h : s.eraseBank flag = .ok t) :
    ∃ override, overrideOf flag = some override ∧ s.ts.op = none ∧ s.ts.faultLatch = false
      ∧ s.permitted override = true
      ∧ t = (s.accept .eraseBank).setOp (some (.eraseBank s.standby override .header)) := by
  unfold State.eraseBank at h
  cases hx : overrideOf flag with
  | none => rw [hx] at h; cases h
  | some override =>
    rw [hx] at h
    obtain ⟨ho, hf, h⟩ := State.storeTests_ok h
    split at h
    · cases h
    · rename_i hp
      exact ⟨override, rfl, ho, hf, by simpa using hp, (Except.ok.inj h).symm⟩

theorem State.copySegment_ok {s t : State} {n : SegmentNo} (h : s.copySegment n = .ok t) :
    ∃ a, s.ts.op = none ∧ s.ts.faultLatch = false ∧ s.ts.mode.active = some a
      ∧ s.locked s.standby n = false
      ∧ (((s.nv.bank s.standby).segmentBlank n = true
            ∧ t = (s.accept .copySegment).copyNext s.standby n ((s.nv.bank a).nextToCopy n 0))
          ∨ ((s.nv.bank s.standby).segmentBlank n = false
            ∧ t = (s.accept .copySegment).complete .notBlank)) := by
  obtain ⟨ho, hf, h⟩ := State.storeTests_ok h
  split at h
  · cases h
  · rename_i a ha
    split at h
    · cases h
    · rename_i hl
      refine ⟨a, ho, hf, ha, by simpa using hl, ?_⟩
      simp only at h
      split at h
      · rename_i hb
        exact .inl ⟨hb, (Except.ok.inj h).symm⟩
      · rename_i hb
        exact .inr ⟨by simpa using hb, (Except.ok.inj h).symm⟩

theorem State.lockSegment_ok {s t : State} {b : BankId} {n : SegmentNo} (h : s.lockSegment b n = .ok t) :
    s.ts.op = none ∧ s.ts.faultLatch = false
      ∧ ((s.locked b n = true ∧ t = (s.accept .lockSegment).complete .ok)
        ∨ (s.locked b n = false
          ∧ t = ((s.accept .lockSegment).mapBank b fun k => k.setLock n true).setOp
              (some (.lockSegment b n)))) := by
  obtain ⟨ho, hf, h⟩ := State.storeTests_ok h
  refine ⟨ho, hf, ?_⟩
  simp only at h
  split at h
  · rename_i hl
    exact .inl ⟨hl, (Except.ok.inj h).symm⟩
  · rename_i hl
    exact .inr ⟨by simpa using hl, (Except.ok.inj h).symm⟩

theorem State.checkBank_ok {s t : State} (h : s.checkBank = .ok t) :
    s.ts.op = none ∧ s.ts.faultLatch = false
      ∧ t = (s.accept .checkBank).setOp (some (.checkBank s.standby)) := by
  obtain ⟨ho, hf, h⟩ := State.storeTests_ok h
  exact ⟨ho, hf, (Except.ok.inj h).symm⟩

theorem State.commit_ok {s t : State} {w : Word} (h : s.commit w = .ok t) :
    s.ts.op = none ∧ s.ts.faultLatch = false
      ∧ (((s.nv.bank s.standby).ready = true
            ∧ t = (s.accept .commit).setOp (some (.commit s.standby w .checking)))
          ∨ ((s.nv.bank s.standby).ready = false ∧ t = (s.accept .commit).complete .bankNotReady)) := by
  obtain ⟨ho, hf, h⟩ := State.storeTests_ok h
  refine ⟨ho, hf, ?_⟩
  simp only at h
  split at h
  · rename_i hr
    exact .inl ⟨hr, (Except.ok.inj h).symm⟩
  · rename_i hr
    exact .inr ⟨by simpa using hr, (Except.ok.inj h).symm⟩

theorem State.clearFault_ok {s t : State} (h : s.clearFault = .ok t) :
    s.ts.op = none ∧ t = { s with ts := { s.ts with faultLatch := false } }.driveAlert := by
  unfold State.clearFault at h
  split at h
  · cases h
  · rename_i ho
    exact ⟨by simpa using ho, (Except.ok.inj h).symm⟩

/-! ### Start-up -/

/-- Selection ends in UNCONFIGURED, or with the check of some candidate's bank being computed; on its way
it touches the store status alone (R163). -/
theorem State.select_cases (s : State) (cells : List CellId) :
    (∃ u : Store, u.op = s.ts.op ∧ u.mode = s.ts.mode ∧ u.staging = s.ts.staging
        ∧ u.lastCheck = s.ts.lastCheck
        ∧ s.select cells = { s with ts := u }.endStarting (.unconfigured s.nv.unconfiguredStandby))
      ∨ (∃ (u : Store) (c : CellId) (rest : List CellId) (r : PointerRecord) (h : Header),
          u.op = s.ts.op ∧ u.mode = s.ts.mode ∧ u.staging = s.ts.staging ∧ u.lastCheck = s.ts.lastCheck
          ∧ u.startUp = .verifying c rest ∧ s.nv.cell c = .valid r
          ∧ (s.nv.bank r.bank).header = .valid h
          ∧ s.select cells = { s with ts := u }.driveAlert) := by
  induction cells generalizing s with
  | nil => exact .inl ⟨s.ts, rfl, rfl, rfl, rfl, rfl⟩
  | cons c rest ih =>
    cases hc : s.nv.cell c with
    | blank => rw [State.select, hc]; exact ih s
    | writing => rw [State.select, hc]; exact ih s
    | valid r =>
      cases hh : (s.nv.bank r.bank).header with
      | valid h =>
        refine .inr ⟨{ s.ts with startUp := .verifying c rest }, c, rest, r, h, rfl, rfl, rfl, rfl, rfl, hc, hh, ?_⟩
        rw [State.select, hc]
        simp only [hh]
      | blank => rw [State.select, hc]; simp only [hh]; exact ih (s.startUpFault .activeCheckFail)
      | programming => rw [State.select, hc]; simp only [hh]; exact ih (s.startUpFault .activeCheckFail)
      | torn => rw [State.select, hc]; simp only [hh]; exact ih (s.startUpFault .activeCheckFail)

/-- What the scan makes of each slot (R162). -/
theorem Bank.slot_scanned (k : Bank) (n : SlotNo) : k.scanned.slot n = (k.slot n).scanned := by
  have : ∀ m : SlotMap, SlotMap.read (m.map fun p => (p.1, p.2.scanned)) n = (SlotMap.read m n).scanned := by
    intro m
    induction m with
    | nil => rfl
    | cons p m ih =>
      obtain ⟨k, x⟩ := p
      simp only [List.map_cons, SlotMap.read_cons, ih]
      split <;> rfl
  exact this k.slots

/-- What the scan makes of each segment (R162). -/
theorem Bank.segment_scanned (k : Bank) (n : SegmentNo) :
    k.scanned.segments.get n = (k.segments.get n).scanned := get_ofFn _ _

/-- What the scan leaves: the banks converted, and the fault latch set if a mark was found (R162). -/
theorem State.scan_nv (s : State) :
    s.scan.nv = { s.nv with bankA := s.nv.bankA.scanned, bankB := s.nv.bankB.scanned } := by
  unfold State.scan
  simp only
  split <;> rfl

end Sys2Proof.Machine
end

