-- ==== Sys2Proof/WellFormed.lean ====
section
/-! DEFINITION. When a command is well formed. Lines, tags, bytes, straps and pointer records are in
range by their types; the one operand with a range of its own is the image an element write reads
back, which has the length of an entry image or of a header image (R29, R36, R125). -/

namespace Sys2Proof

/-- The image read back at ELEMENT_WRITE_END is 20 characters (a slot) or 8 (a header). -/
def Instr.readBackLength : Instr → Bool
  | .elementWriteEnd image => image.length == 20 || image.length == 8
  | _ => true

/-- A well-formed command. -/
def Instr.WellFormed (i : Instr) : Prop := i.readBackLength = true

end Sys2Proof
end

