-- ==== Sys2Proof/Tests/Slice0.lean ====
section
/-! SUPPORT. Tests on fixed values: the smoke of WellFormed, the worked examples of the manual (each test
names its rule or example), at most two small tests of each command, and for each statement that has
hypotheses a state and operands that meet them. -/

namespace Sys2Proof.Tests

open Sys2Proof Sys2Proof.Machine

/-! ### A part in service

The table of the manual's worked lookup (The Translation Table, "A lookup worked through"), active in bank
A under generation 6 and management address F2h, as in "A commit that renumbers a station". -/

/-- Slot 0 of the worked lookup. -/
def forwardParams : ForwardParams :=
  { outAddr := 0x42, outFn := 0x12, retryLimit := 2, timeout := 0, strip := 1, front := [0x07] }

def forwardEntry : Entry := { keyAddr := 0x11, keyFn := 0x05, action := .forward forwardParams }

/-- Slot 8 of the worked lookup. -/
def anyParams : ForwardParams :=
  { outAddr := 0xFF, outFn := 0x09, retryLimit := 1, timeout := 20, strip := 0, front := [] }

/-- Slot 64 of the worked lookup. -/
def broadcastParams : ForwardParams :=
  { outAddr := 0xFF, outFn := 0x21, retryLimit := 0, timeout := 0, strip := 0, front := [] }

/-- The worked lookup's bank, with a DROP entry more in slot 9, whose key no request of the example has. -/
def workedSlots : SlotMap :=
  [(0, .valid forwardEntry),
   (1, .valid { keyAddr := 0x11, keyFn := 0xFF, action := .reject 0x30 }),
   (8, .valid { keyAddr := 0xFF, keyFn := 0x05, action := .forward anyParams }),
   (9, .valid { keyAddr := 0x13, keyFn := 0x07, action := .drop }),
   (64, .valid { keyAddr := 0x00, keyFn := 0x20, action := .forward broadcastParams }),
   (511, .valid { keyAddr := 0xFF, keyFn := 0xFF, action := .answer [] })]

def header : Header :=
  { mgmtAddr := 0xF2, missAction := .reject, defaultTimeout := 25, quarantine := 20,
    label := #v[0x54, 0x41, 0x42, 0x31] }

def newHeader : Header := { header with mgmtAddr := 0xF4, quarantine := 30 }

def service : Service := { active := .bankA, cell := .zero, generation := 6, header := header }

/-- RUNNING from bank A, bank B blank, every tag FREE, nothing waiting. -/
def running : State :=
  { State.reset with
    pins := { powered := true, resetN := true, keysw := false, alert := false }
    nv := { Nonvolatile.blank with
      bankA := { Bank.blank with header := .valid header, slots := workedSlots }
      cell0 := .valid { bank := .bankA, generation := 6, check := 0x1234 } }
    ts := { Store.powerOn with mode := .running service }
    tt := { tags := Vector.replicate 32 .free, freeList := List.finRange 32, dq := [], quietTimer := none } }

/-- The same part UNCONFIGURED, as after a start-up that found no table. -/
def unconfigured : State :=
  { running with
    pins := { running.pins with alert := true }
    ts := { running.ts with mode := .unconfigured .bankA } }

/-- Part of what a command leaves, or none where it does not answer a next state. -/
def view {α : Type} (c : Instr) (s : State) (f : State → α) : Option α :=
  match exec c s with
  | .next t => some (f t)
  | _ => none

/-- Why a command stops, if it does. -/
def stop (c : Instr) (s : State) : Option Fault :=
  match exec c s with
  | .fault r => some r
  | _ => none

/-- The frame of the manual's example: station 17, function 5, tag 2Ah, payload 01h 40h. -/
def example17 : Frame :=
  { addr := 0x11, dir := false, exc := false, fn := 5, seq := 0x2A, payload := [0x01, 0x40] }

/-- The part with all of a frame received but its last character. -/
def receiving (s : State) (line : Line) (f : Frame) : State :=
  s.setReceiver (.collect (f.body ++ [highHalf f.check]) (some (f.payload.length + 6)) false) line

/-- A record of the worked shaping: upline key (11h, 05h, 22h), downline 42h and 12h, strip count 1. -/
def record7 (state : RecordState) : Record :=
  { upAddr := 0x11, upFn := 0x05, upTag := 0x22, downAddr := 0x42, downFn := 0x12, downPayload := [0x07],
    strip := 1, replyTimeout := 25, retryLimit := 2, retransmissions := 0, quarantine := 20, generation := 6,
    slot := 0, state := state }

/-- A running part in which tag 7 is BUSY with that record. -/
def tracking (state : RecordState) : State :=
  { running with tt := { running.tt with
      tags := setAt running.tt.tags 7 (.busy (record7 state))
      freeList := (List.finRange 32).filter (· ≠ 7) } }

/-- A reply of station 42h to that record's request. -/
def reply7 : Frame :=
  { addr := 0x42, dir := true, exc := false, fn := 0x12, seq := 0x07, payload := [0xA0, 0x01, 0x02] }

/-- A management request of the part in service. -/
def manage (fn : FunctionCode) (payload : List Byte) : Frame :=
  { addr := 0xF2, dir := false, exc := false, fn := fn, seq := 0x21, payload := payload }

/-- A part with its Upline Transmit Queue full of one reply. -/
def congestedUp (s : State) : State :=
  { s with rt := { s.rt with uq := List.replicate 16 (example17.ownReply false []) } }

/-- A part with an operation in flight. -/
def operating (op : StoreOp) (f : Bank → Bank) : State :=
  { running with
    nv := running.nv.mapBank f .bankB
    ts := { running.ts with op := some op } }

/-! ### WellFormed -/

theorem test_wellFormed_takes_entry_image :
    (Instr.elementWriteEnd forwardEntry.image).readBackLength = true := by decide
theorem test_wellFormed_refuses_nineteen_characters :
    (Instr.elementWriteEnd (List.replicate 19 0)).readBackLength = false := by decide

/-! ### Words: no row of the table has bits -/

theorem test_decode_none : decodeTableWord 16 0x1234 = none := rfl
theorem test_withFetchWord_unchanged : State.reset.withFetchWord 16 0x1234 = State.reset := rfl

/-! ### Characters, frames and the check -/

/-- R1: 2Ah with the lead mark, low start bit first, high stop bit last. -/
theorem test_character_bits : ({ byte := 0x2A, lead := true } : Character).bits =
    [false, false, true, false, true, false, true, false, false, true, true] := by decide
/-- R4, the example frame: its bytes up to the payload. -/
theorem test_example_frame_body : example17.body = [0x11, 0x05, 0x2A, 0x02, 0x01, 0x40] := by decide
/-- R4: a normal reply to it has the function byte 85h, an exception reply C5h. -/
theorem test_function_bytes : (example17.ownReply false []).functionByte = 0x85
    ∧ (example17.ownReply true []).functionByte = 0xC5 := by decide
/-- R5 by hand: one byte 00h from FFFFh. The eight shifts give E1F0h (the published value of this check
over one zero byte). -/
theorem test_check_of_zero_byte : crc [0x00] = 0xE1F0#16 := by decide
/-- R5. The published check of the digits 1 to 9 under this polynomial and preset (from outside the manual,
whose examples print no check). -/
theorem test_check_of_digits :
    crc [0x31, 0x32, 0x33, 0x34, 0x35, 0x36, 0x37, 0x38, 0x39] = 0x29B1#16 := by decide +kernel
/-- R3: the four rates. -/
theorem test_rates : [0, 1, 2, 3].map (fun r => Config.bitsPerSecond (BitVec.ofNat 2 r))
    = [9600, 19200, 38400, 76800] := by decide

/-! ### Images, lookup, the bank check -/

/-- R29 to R31: slot 0 of the worked lookup, character by character. -/
theorem test_forward_image : forwardEntry.image =
    [0x11, 0x05, 0x00, 0x42, 0x12, 0x02, 0x00, 0x01, 0x01, 0x07, 0, 0, 0, 0, 0, 0, 0, 0, 0, 0] := by decide
theorem test_forward_image_reads_back : Entry.ofImage forwardEntry.image = some forwardEntry := by decide
/-- R31: an unused prefix place must hold 00h. -/
theorem test_image_refuses_stray_prefix : Entry.ofImage
    [0x11, 0x05, 0x00, 0x42, 0x12, 0x02, 0x00, 0x01, 0x00, 0x07, 0, 0, 0, 0, 0, 0, 0, 0, 0, 0] = none := by
  decide
/-- R34: a reject reason of E0h is illegal. -/
theorem test_image_refuses_reason : Entry.ofImage
    [0x11, 0xFF, 0x02, 0, 0, 0, 0, 0, 0, 0, 0, 0, 0, 0xE0, 0, 0, 0, 0, 0, 0] = none := by decide
/-- R36: a quarantine time of 0 is illegal. -/
theorem test_header_refuses_no_quarantine :
    Header.ofImage [0xF2, 0x01, 25, 0, 0, 0, 0, 0] = none := by decide
/-- The worked lookup: the slot each of its six requests is governed by. -/
theorem test_worked_lookup :
    [(0x11, 0x05), (0x11, 0x06), (0x12, 0x05), (0x12, 0x06), (0x00, 0x20), (0x00, 0x05)].map
      (fun r : Byte × FunctionCode => (running.nv.bankA.lookup r.1 r.2).map (·.1.val))
      = [some 0, some 1, some 8, some 511, some 64, none] := by decide
/-- The worked lookup with segment 0 ERASE_INCOMPLETE: its first request is governed by slot 511. -/
theorem test_lookup_skips_incomplete_segment :
    ((running.nv.bankA.setCondition 0 .eraseIncomplete).lookup 0x11 0x05).map (·.1.val) = some 511 := by
  decide
/-- The worked bank check sequence: 561 bytes, and the TORN slot 9 at its place. -/
theorem test_bank_check_sequence :
    let k : Bank := { Bank.blank with
      header := .valid header
      slots := [(0, .valid forwardEntry), (1, .valid forwardEntry), (9, .torn)] }
    k.checkBytes.length = 561 ∧ k.checkBytes.getD (9 + 21 + 21 + 7) 0xFF = 0x02 := by decide +kernel

/-! ### The worked shaping, the newest record -/

/-- "A shaping worked through", first and second rows. -/
theorem test_shaping : ((record7 .awaitReply).shape reply7).functionByte = 0x85
    ∧ ((record7 .awaitReply).shape reply7).payload = [0x01, 0x02]
    ∧ ((record7 .awaitReply).shape { reply7 with payload := [0xA0] }).payload = [] := by decide
/-- "A shaping worked through", third row: an exception is carried whole. -/
theorem test_shaping_exception :
    ((record7 .awaitReply).shape { reply7 with exc := true, payload := [0x05] }).functionByte = 0xC5
    ∧ ((record7 .awaitReply).shape { reply7 with exc := true, payload := [0x05] }).payload = [0x05] := by
  decide
/-- R103's example: exhausted after three attempts, payload E1h 03h. -/
theorem test_no_reply : ({ record7 .awaitReply with upTag := 0x25, retransmissions := 2 }).noReply
    = { addr := 0x11, dir := true, exc := true, fn := 5, seq := 0x25, payload := [0xE1, 0x03] } := by decide

/-- A part with these two generations in its cells (bank A in cell 0, bank B in cell 1). -/
def twoRecords (g0 g1 : Word) : Nonvolatile :=
  { Nonvolatile.blank with
    cell0 := .valid { bank := .bankA, generation := g0, check := 0 }
    cell1 := .valid { bank := .bankB, generation := g1, check := 0 } }

/-- "Pointer selection worked through": 7 and 8, 65535 and 0, 1 and 9, 5 and 5. -/
theorem test_newest :
    [(7, 8), (65535, 0), (1, 9), (5, 5)].map
      (fun g : Nat × Nat => (twoRecords (BitVec.ofNat 16 g.1) (BitVec.ofNat 16 g.2)).newest)
      = [some .one, some .one, some .one, some .zero] := by decide
/-- Its sixth row: the bank the newest record names is kept out of the standby role. -/
theorem test_standby_avoids_newest : (twoRecords 7 8).unconfiguredStandby = .bankA := by decide

/-! ### The commands -/

theorem test_powerOn_held_in_reset :
    view (.powerOn 2 1) { State.reset with pins := { State.reset.pins with powered := false, resetN := false } }
      (fun t => (t.ts.startUp, t.straps, t.pins.alert)) = some (.idle, { rate := 0, madr := 0 }, true) := by
  decide
theorem test_powerFail_loses_staging :
    view .powerFail { running with ts := { running.ts with staging := .page 0 (Vector.replicate 8 none) } }
      (fun t => (t.ts.staging, t.ts.mode, t.pins.powered)) = some (.empty, .starting, false) := by decide
theorem test_resetNFall_keeps_table :
    view .resetNFall running (fun t => t.nv.bankA.slots = workedSlots ∧ t.tt.freeList = []) = some True := by
  simp [view, exec, execResetNFall, running, State.reset, State.interrupt, State.eraseProgress, State.driveAlert,
    State.volatileReset, Tracker.powerOn, Store.powerOn]
theorem test_resetNRelease_samples_straps :
    view (.resetNRelease 3 2) { State.reset with pins := { State.reset.pins with resetN := false } }
      (fun t => (t.mgmtAddr, t.straps.rate, t.ts.startUp)) = some (0xFA, 3, .scanning) := by decide
/-- "Power-up after an interrupted first program": one mark, then UNCONFIGURED with INTERRUPTED latched. -/
theorem test_startUpScan_converts :
    view .startUpScan { State.reset with nv := Nonvolatile.blank.mapBank (·.setSlot 9 .programming) .bankA }
      (fun t => (t.nv.bankA.slot 9, t.ts.mode, t.ts.lastResult)) = some (.torn, .unconfigured .bankA, .interrupted) := by
  decide
theorem test_startUpScan_quiet_period :
    view .startUpScan State.reset (fun t => (t.tt.quietTimer, t.pins.alert)) = some (some 5, true) := by decide
/-- The first rows of the worked receiver: noise counted, a lead character taken. -/
theorem test_character_noise_then_lead :
    view (.character ⟨.upline, false⟩ 0x3C false false) running (fun t => (t.ur, t.counter .upFormErr)) = some (.hunt, 1)
    ∧ view (.character ⟨.upline, false⟩ 0x11 true false) running (·.ur) = some (.collect [0x11] none true) := by decide
/-- Its Length character: the expected length is 8. -/
theorem test_character_length :
    view (.character ⟨.upline, false⟩ 0x02 false false) { running with ur := .collect [0x11, 0x05, 0x2A] none true }
      (·.ur) = some (.collect [0x11, 0x05, 0x2A, 0x02] (some 8) true) := by decide
theorem test_characterError_abandons :
    view (.characterError ⟨.downline, false⟩) { running with dr := .collect [0x42] none false }
      (fun t => (t.dr, t.counter .dnFormErr)) = some (.discard, 1) := by decide
/-- A line held low: one character error, and then nothing until the pin has been high (R2). -/
theorem test_characterError_once_on_a_break :
    view (.characterError ⟨.upline, false⟩) running (fun t => (t.counter .upFormErr, t.awaitsHigh .upline))
      = some (1, true)
    ∧ view (.characterError ⟨.upline, false⟩) { running with urAwaitsHigh := true }
        (·.counter .upFormErr) = some 0 := by decide
theorem test_gapTimerExpiry_hunts :
    view (.gapTimerExpiry .upline) { running with ur := .collect [0x20] none true }
      (fun t => (t.ur, t.counter .upFormErr)) = some (.hunt, 1) := by decide
theorem test_startBit_stops_gap_timer :
    view (.startBit ⟨.upline, false⟩) { running with ur := .collect [0x20] none true } (·.ur)
      = some (.collect [0x20] none false) := by decide
theorem test_startBit_waits_for_high :
    view (.startBit ⟨.upline, false⟩) { running with urAwaitsHigh := true } (·.urAwaitsHigh) = some true
    ∧ view (.startBit ⟨.upline, true⟩) { running with urAwaitsHigh := true } (·.urAwaitsHigh) = some false := by
  decide
theorem test_utTake_prefers_holder :
    view .utTake { congestedUp running with me := { running.me with holder := some reply7 } }
      (fun t => (t.rt.uq.length, t.rt.uq.getLast?, t.me.holder)) = some (16, some reply7, none) := by decide
theorem test_uplineFrameSent_idle :
    view .uplineFrameSent { running with ut := some (InFlight.start reply7) } (·.ut) = some none := by decide
/-- UT may take its next head before the restart (R23). -/
theorem test_uplineFrameSent_restart_due :
    view .uplineFrameSent
      { congestedUp running with
        ut := some (InFlight.start reply7), me := { running.me with state := .restartPending reply7 }, pending := [.utTake] }
      (fun t => (t.ut, t.me.state, t.rt.uq.length)) = some (none, .restartDue, 16) := by decide
/-- UT takes its head with the restart due: nothing is left for the command that is offered next, and UP_TX
carries the start bit of the frame cut short (R23). -/
theorem test_utTake_restart_due :
    view .utTake { congestedUp running with me := { running.me with state := .restartDue } }
      (fun t => (t.ut, t.rt.uq, (t.transmitLevels .upline).head?)) = some (none, [], some false) := by decide
/-- With the queue empty UT is entitled to no taking: the restart comes with the report (R23). -/
theorem test_uplineFrameSent_nothing_to_take :
    view .uplineFrameSent
      { running with
        ut := some (InFlight.start reply7), me := { running.me with state := .restartPending reply7 }, pending := [.utTake] }
      (fun t => (t.ut, t.me.state, t.pending)) = some (none, .ready, [.utTake]) := by decide
theorem test_dtTake_builds_frame :
    view .dtTake { tracking .waitLine with tt := { (tracking .waitLine).tt with dq := [.tracked 7] } }
      (fun t => (t.dt.map (·.flight.frame), t.tag 7)) = some (some
        { addr := 0x42, dir := false, exc := false, fn := 0x12, seq := 0x07, payload := [0x07] },
        .busy (record7 .sending)) := by decide
theorem test_downlineFrameSent_starts_timer :
    view .downlineFrameSent { tracking .sending with
      dt := some (DownFlight.start ((record7 .sending).downFrame 7) (.tracked 7)) }
      (fun t => (t.dt, t.tag 7)) = some (none, .busy (record7 .awaitReply)) := by decide
/-- "A retransmission overtaken on the line", its first event. -/
theorem test_replyTimerExpiry_retransmits :
    view (.replyTimerExpiry 7) (tracking .awaitReply)
      (fun t => (t.tt.dq, t.counter .retransmissions)) = some ([.tracked 7], 1) := by decide
theorem test_replyTimerExpiry_exhausts :
    view (.replyTimerExpiry 7) (running.setTag 7 (.busy { record7 .awaitReply with retryLimit := 0 }))
      (fun t => (t.rt.uq.map (·.payload), t.tag 7)) = some ([[0xE1, 0x01]], .quarantine 20) := by decide
/-- The same sequence: tag 3 joins the free list 9, 8 at its tail. -/
theorem test_quarantineExpiry_joins_tail :
    view (.quarantineExpiry 3) { running.setTag 3 (.quarantine 20) with
      tt := { (running.setTag 3 (.quarantine 20)).tt with freeList := [9, 8] } }
      (·.tt.freeList) = some [9, 8, 3] := by decide
theorem test_quietPeriodExpiry_order :
    view .quietPeriodExpiry { State.reset with tt := { State.reset.tt with quietTimer := some 20 } }
      (fun t => (t.tt.freeList.head?, t.tt.freeList.length, t.tag 31)) = some (some 0, 32, .free) := by decide
theorem test_elementWriteEnd_verifies :
    view (.elementWriteEnd forwardEntry.image)
      (operating (.programStage .bankB 9 forwardEntry) (·.setSlot 9 .programming))
      (fun t => (t.nv.bankB.slot 9, t.ts.op)) = some (.valid forwardEntry, none) := by decide
theorem test_elementWriteEnd_tears :
    view (.elementWriteEnd (List.replicate 20 0))
      (operating (.programStage .bankB 9 forwardEntry) (·.setSlot 9 .programming))
      (fun t => (t.nv.bankB.slot 9, t.ts.lastResult, t.pins.alert)) = some (.torn, .verifyFail, true) := by decide
theorem test_segmentEraseEnd_unlocks :
    view .segmentEraseEnd
      (operating (.eraseSegment .bankB 1 true) fun k => ((k.setSlot 64 .torn).setLock 1 true).setCondition 1 .erasing)
      (fun t => (t.nv.bankB.slot 64, t.nv.bankB.locks.get 1, t.nv.bankB.segments.get 1, t.ts.lastResult))
      = some (.blank, false, .normal, .ok) := by decide
theorem test_headerEraseEnd_skips_locked :
    view .headerEraseEnd (operating (.eraseBank .bankB false .header) (·.setLock 0 true))
      (fun t => t.ts.op) = some (some (.eraseBank .bankB false (.segment 1))) := by decide
theorem test_lockWriteEnd_completes :
    view .lockWriteEnd (operating (.lockSegment .bankB 3) (·.setLock 3 true))
      (fun t => (t.ts.op, t.ts.lastResult, t.nv.bankB.locks.get 3)) = some (none, .ok, true) := by decide
theorem test_checkBankComplete_blank_bank :
    view .checkBankComplete (operating (.checkBank .bankB) id) (fun t => (t.ts.lastCheck, t.ts.op))
      = some (some Bank.blank.check, none) := rfl
theorem test_commitCheckStageEnd_erases_other_cell :
    view .commitCheckStageEnd (operating (.commit .bankB Bank.blank.check .checking) id)
      (fun t => (t.nv.cell1, t.ts.lastCheck)) = some (.blank, some Bank.blank.check) := by
  simp [view, exec, execCommitCheckStageEnd, operating, running, service, Nonvolatile.blank, State.setCell,
    Nonvolatile.setCell, Mode.targetCell, CellId.other, Nonvolatile.mapBank, Nonvolatile.bank]
/-- "A commit that renumbers a station": the second pointer event writes generation 7. -/
theorem test_pointerWriteStart_generation :
    view .pointerWriteStart (operating (.commit .bankB 5 (.erased 5)) id) (fun t => (t.nv.cell1, t.ts.op))
      = some (.writing, some (.commit .bankB 5
          (.writing { bank := .bankB, generation := 7, check := 5 }))) := by decide
/-- Its third: bank B is in service under F4h, and cell 0 still holds the old record. -/
theorem test_pointerVerify_switches :
    view (.pointerVerify { bank := .bankB, generation := 7, check := 5 })
      (operating (.commit .bankB 5 (.writing { bank := .bankB, generation := 7, check := 5 }))
        (·.setHeader (.valid newHeader)))
      (fun t => (t.mgmtAddr, t.ts.mode.generation, t.ts.mode.active, t.nv.cell0))
      = some (0xF4, 7, some .bankB, .valid { bank := .bankA, generation := 6, check := 0x1234 }) := by decide

/-! ### Witnesses: states and operands that meet the hypotheses of the statements

One theorem for each statement that has hypotheses, with a part for each of its clauses. -/

theorem running_tag : ∀ t, running.tag t = .free := by decide
theorem unconfigured_tag : ∀ t, unconfigured.tag t = .free := by decide

/-- Every entry of the worked table is legal. -/
theorem workedSlots_legal : ∀ p ∈ workedSlots, ∀ e, p.2 = .valid e → e.legal = true := by
  intro p hp e he
  simp only [workedSlots, List.mem_cons, List.not_mem_nil, or_false] at hp
  rcases hp with rfl | rfl | rfl | rfl | rfl | rfl <;>
    (obtain rfl := Element.valid.inj he; decide)

theorem workedSlots_unmarked : ∀ p ∈ workedSlots, p.2 ≠ .programming := by decide

theorem bankA_sound : running.nv.bankA.Sound where
  canonical := by decide
  entries := fun n e h => Bank.valid_of_all (k := running.nv.bankA) workedSlots_legal n e h
  header := by
    intro h hh
    have : header = h := Element.valid.inj hh
    subst this; decide

theorem bankB_sound : Bank.blank.Sound where
  canonical := by decide
  entries := by intro n e h; simp [Bank.slot, Bank.blank] at h
  header := by intro h hh; simp [Bank.blank] at hh

theorem bankA_unmarked (n : SlotNo) : running.nv.bankA.slot n ≠ .programming := by
  intro h
  have hm := SlotMap.mem_of_read (m := running.nv.bankA.slots) (n := n) (by
    rw [show SlotMap.read running.nv.bankA.slots n = .programming from h]; simp)
  exact workedSlots_unmarked _ hm h

/-- What the tracker's laws ask of a part whose tags are all FREE. -/
theorem trackerInv_of_free {s : State} (hr : s.ResetLaw) (ht : ∀ t, s.tag t = .free)
    (hf : s.tt.freeList = List.finRange 32) (hq : s.tt.dq = []) (hh : s.rt.holdList = [])
    (hd : s.dt = none) (hm : s.tt.quietTimer = none) : s.TrackerInv where
  reset := hr
  freeList := by
    unfold State.FreeListLaw
    rw [hf]
    exact ⟨List.nodup_finRange 32, fun t => by simp [ht t]⟩
  holdList := by
    unfold State.HoldListLaw
    rw [hh]
    exact ⟨List.nodup_nil, fun t => by simp [ht t, TagState.isHeld]⟩
  downQueue := by
    unfold State.DownQueueLaw
    rw [hq]
    exact ⟨by simp, fun t => by simp [ht t, TagState.isWaiting], by simp⟩
  transmission := by
    intro t
    simp [State.sendingTag, hd, ht t, TagState.awaitsReport]
  keys := by intro t t' r r' h; simp [ht t] at h
  quietPeriod := by
    refine ⟨?_, ?_⟩
    · rintro ⟨t, h⟩; simp [ht t] at h
    · intro h; simp [hm] at h

theorem running_resetLaw : running.ResetLaw := by
  refine ⟨?_, ?_, ?_⟩
  · intro h; exact absurd h (by decide)
  · intro h; exact absurd h (by decide)
  · intro _; decide

theorem running_storeInv : running.StoreInv where
  reset := running_resetLaw
  banks := by intro b; cases b; exacts [bankA_sound, bankB_sound]
  staging := trivial
  service := by
    intro v hv
    have : service = v := Mode.running.inj hv
    subst this
    exact ⟨rfl, _, rfl⟩
  operation := by intro op h; cases h
  commit := by intro b w stage h; cases h
  marks := by
    intro _ _
    have idle : ∀ P : StoreOp → Prop, ¬ ∃ op ∈ running.ts.op, P op := by
      rintro P ⟨op, h, -⟩
      cases h
    refine ⟨fun b n => iff_of_false ?_ (idle _), fun b => iff_of_false ?_ (idle _),
      fun b n => iff_of_false ?_ (idle _)⟩
    · cases b
      · exact bankA_unmarked n
      · simp [running, Nonvolatile.bank, Nonvolatile.blank, Bank.blank, Bank.slot]
    · cases b <;> simp [running, Nonvolatile.bank, Nonvolatile.blank, Bank.blank]
    · cases b <;> simp [running, Nonvolatile.bank, Nonvolatile.blank, Bank.blank]
  locks := by
    refine ⟨fun op h => (by cases h), fun b k h => ?_⟩
    cases b <;> simp [State.locked, running, Nonvolatile.bank, Nonvolatile.blank, Bank.blank] at h
  blankAhead := by intro op h; cases h

theorem running_inv : running.Inv where
  tracker := trackerInv_of_free running_resetLaw running_tag rfl rfl rfl rfl rfl
  store := running_storeInv
  upQueue := by exact ⟨by decide, fun _ => ⟨rfl, rfl⟩⟩
  upReplies := by
    refine ⟨by decide, by decide, by decide, by decide, fun t r _ _ h => ?_⟩
    simp [running_tag t] at h
  records := by intro t r h; simp [running_tag t] at h
  captured := by intro t; simp [running_tag t]
  receivers := by exact ⟨⟨trivial, trivial⟩, fun line h => by cases line <;> cases h⟩
  alert := by unfold State.AlertLaw; decide

/-- The part in service with a command waiting, for the statements about steps. -/
def waiting (c : Instr) : State := { running with pending := [c] }

/-- No command waits: with no restart due, with one due, a transmitter IDLE and SENDING, and IDLE with a frame
cut short. -/
theorem test_witness_EmptyQueuePassesOneCharacterTime :
    let s : State := { running with ut := some (InFlight.start reply7) }
    s.pending = [] ∧ s.me.state ≠ .restartDue ∧ s.ut = some (InFlight.start reply7) ∧ s.dt = none
      ∧ ({ s with me := { s.me with state := .restartDue } } : State).me.state = .restartDue
      ∧ running.ut = none ∧ running.utCut = none
      ∧ ({ running with utCut := some ⟨reply7, 3⟩ } : State).utCut = some ⟨reply7, 3⟩ := by decide

theorem test_witness_CommandsLeaveTheQueueAlone :
    ∃ t, exec .utTake (waiting .dtTake) = .next t := ⟨_, rfl⟩

/-- Each clause of PowerAndResetEvents: the four combinations of power and RESET_N, no erase running. -/
theorem test_witness_PowerAndResetEvents :
    ∃ a b c d : State, (a.pins.powered = true ∧ a.pins.resetN = true ∧ a.ts.op.bind StoreOp.erasing = none)
      ∧ (b.pins.powered = true ∧ b.pins.resetN = false) ∧ (c.pins.powered = false ∧ c.pins.resetN = true)
      ∧ (d.pins.powered = false ∧ d.pins.resetN = false) :=
  ⟨running, { running with pins := { running.pins with resetN := false } },
    { running with pins := { running.pins with powered := false } },
    { running with pins := { running.pins with powered := false, resetN := false } }, by decide⟩

theorem test_witness_InterruptionKeepsTheBanks :
    ∃ t, exec .powerFail (operating (.eraseSegment .bankB 1 false) (·.setCondition 1 .erasing)) = .next t :=
  ⟨_, rfl⟩

/-- The scan of a part with a record in cell 0, its bank's header VALID or not, and a record in cell 1. -/
def scanning (h0 h1 : Element Header) (cell1 : PointerCell) : State :=
  { State.reset with nv := {
      bankA := { Bank.blank with header := h0 }, bankB := { Bank.blank with header := h1 }
      cell0 := .valid { bank := .bankA, generation := 6, check := 0 }, cell1 := cell1 } }

/-- The newest record's bank with a VALID header, the other cell VALID and not; and with none, the other
cell's bank with a VALID header and not. -/
theorem test_witness_StartUpScanEnds_candidates :
    let other : PointerCell := .valid { bank := .bankB, generation := 5, check := 0 }
    ∀ h0 ∈ [Element.valid header, .torn], ∀ h1 ∈ [Element.valid newHeader, .blank], ∀ c ∈ [other, .blank],
      let s := scanning h0 h1 c
      s.ts.startUp = .scanning ∧ s.nv.newest = some .zero ∧ s.nv.cell (CellId.other .zero) = c
        ∧ (s.nv.bank .bankA).header = h0 ∧ (s.nv.bank .bankB).header = h1 := by decide

/-- A start-up scan with a mark to convert and no VALID cell, without a mark, and no scan running. -/
theorem test_witness_StartUpScanEnds :
    ∃ a b c : State, (a.ts.startUp = .scanning ∧ a.nv.cell0 = .blank ∧ a.nv.cell1 = .blank
        ∧ a.nv.bankA.marked = true)
      ∧ (b.ts.startUp = .scanning ∧ b.nv.cell0 = .blank ∧ b.nv.bankA.marked = false ∧ b.nv.bankB.marked = false)
      ∧ c.ts.startUp ≠ .scanning :=
  ⟨{ State.reset with nv := Nonvolatile.blank.mapBank (·.setSlot 9 .programming) .bankA }, State.reset, running,
    by decide⟩

/-- A part verifying the record of a cell, with another cell to try. -/
def verifying (check0 : Word) (untried : List CellId) : State :=
  { State.reset with
    nv := { running.nv with
      bankB := { Bank.blank with header := .valid newHeader }
      cell0 := .valid { bank := .bankA, generation := 6, check := check0 }
      cell1 := .valid { bank := .bankB, generation := 5, check := 0 } }
    ts := { State.reset.ts with startUp := .verifying .zero untried } }

/-- The candidate's check equal, different with none left, and different with another whose bank has a VALID
header, or none (the last clause). -/
theorem test_witness_PointerSelectionEnds :
    let good := verifying running.nv.bankA.check []
    let bad := verifying (running.nv.bankA.check + 1)
    (good.ts.startUp = .verifying .zero [] ∧ (good.nv.bank .bankA).check = running.nv.bankA.check)
      ∧ (∀ l, (bad l).ts.startUp = .verifying .zero l
        ∧ (bad l).nv.cell .zero
            = .valid { bank := .bankA, generation := 6, check := running.nv.bankA.check + 1 }
        ∧ ((bad l).nv.bank .bankA).header = .valid header
        ∧ ((bad l).nv.bank .bankA).check ≠ running.nv.bankA.check + 1
        ∧ (bad l).nv.cell .one = .valid { bank := .bankB, generation := 5, check := 0 }
        ∧ ((bad l).nv.bank .bankB).header = .valid newHeader)
      ∧ ∀ g, ((({ good with nv := good.nv.mapBank (·.setHeader .blank) .bankB } : State).nv.bank .bankB).header
          ≠ .valid g) := by
  refine ⟨⟨rfl, rfl⟩, fun l => ⟨rfl, rfl, rfl, ?_, rfl, rfl⟩, fun g h => by cases h⟩
  intro h
  have h' : running.nv.bankA.check = running.nv.bankA.check + 1 := h
  generalize running.nv.bankA.check = w at h'
  bv_omega

/-- Records in both cells, newest by each of the tests of R153, in one cell, and in none. -/
theorem test_witness_PointerSelectionEnds_newest :
    ([(8, 7), (7, 8), (9, 1), (1, 9), (5, 5)].map fun g : Nat × Nat =>
        (twoRecords (BitVec.ofNat 16 g.1) (BitVec.ofNat 16 g.2)).newest)
      = [some .zero, some .one, some .zero, some .one, some .zero]
      ∧ running.nv.newest = some .zero ∧ Nonvolatile.blank.newest = none := by decide

theorem test_witness_EveryStepKeepsTheLaws : running.Inv ∧ ∃ t, step running = .next t :=
  ⟨running_inv, _, rfl⟩
theorem test_witness_EveryStepKeepsTheTrackerLaws : running.TrackerInv ∧ ∃ t, step running = .next t :=
  ⟨running_inv.tracker, _, rfl⟩
theorem test_witness_EveryStepKeepsTheStoreLaws : running.StoreInv ∧ ∃ t, step running = .next t :=
  ⟨running_storeInv, _, rfl⟩

/-- A full queue with a management reply waiting, and a step that takes its head. -/
theorem test_witness_UplineQueueLawKept :
    let s : State := { congestedUp (waiting .utTake) with me := { running.me with holder := some reply7 } }
    (s.rt.uq.length ≤ 16 ∧ (s.rt.uq.length < 16 → s.rt.holdList = [] ∧ s.me.holder = none))
      ∧ ∃ t, step s = .next t :=
  ⟨⟨by decide, fun h => absurd h (by decide)⟩, _, rfl⟩

theorem test_witness_AlertFollowsModeAndLatch :
    (running.pins.powered = true → (running.pins.alert = true ↔
        running.pins.resetN = false ∨ (∀ v, running.ts.mode ≠ .running v) ∨ running.ts.faultLatch = true))
      ∧ ∃ t, step running = .next t := by
  refine ⟨fun _ => ⟨fun h => absurd h (by decide), ?_⟩, _, rfl⟩
  rintro (h | h | h)
  · exact absurd h (by decide)
  · exact absurd rfl (h service)
  · exact absurd h (by decide)

theorem test_witness_CapturedFieldsStayAsSet :
    (tracking .awaitReply).FreeListLaw ∧ (tracking .awaitReply).tag 7 = .busy (record7 .awaitReply)
      ∧ ∃ t, exec (.replyTimerExpiry 7) (tracking .awaitReply) = .next t
        ∧ t.tag 7 = .busy { record7 .waitLine with retransmissions := 1 } := by
  refine ⟨⟨by decide, ?_⟩, by decide, _, rfl, by decide⟩
  decide

theorem test_witness_TableInServiceIsNeverDisturbed :
    running.StoreInv ∧ running.ts.mode = .running service ∧ ∃ t, exec .utTake running = .next t :=
  ⟨running_storeInv, rfl, _, rfl⟩

theorem test_witness_SlotsChangeOnlyByWriteAndErase :
    running.StoreInv ∧ ∃ t, exec .powerFail running = .next t := ⟨running_storeInv, _, rfl⟩

/-- A part that listens, in HUNT and in DISCARD, and a frame with the longest payload. -/
theorem test_witness_SentFrameIsReceivedWhole :
    running.listening = true ∧ running.recognises ⟨.upline, false⟩ = true ∧ running.receiver .upline = .hunt
      ∧ ({ running with urAwaitsHigh := true } : State).recognises ⟨.upline, true⟩ = true
      ∧ ({ running with ur := .discard } : State).receiver .upline = .discard
      ∧ (manage 1 (List.replicate 32 0)).payload.length ≤ 32 := by decide

theorem test_witness_CheckDetectsOneWrongByte : (0x01 : Byte) ≠ 0x02 := by decide

/-- The part listens in HUNT, in DISCARD and in COLLECT. -/
theorem test_witness_LeadCharacterStartsAFrame :
    running.listening = true ∧ running.recognises ⟨.downline, false⟩ = true ∧ running.receiver .downline = .hunt
      ∧ ({ running with ur := .discard } : State).receiver .upline = .discard
      ∧ ({ running with ur := .collect [0x20] none true } : State).receiver .upline
          = .collect [0x20] none true := by decide

/-- In COLLECT: the Length character at its two ends, and a character that does not complete the frame. -/
theorem test_witness_LaterCharacterIsAppended :
    [0x11, 0x05, (0x2A : Byte)].length = 3 ∧ (0x20 : Byte).toNat ≤ 32 ∧ 32 < (0x21 : Byte).toNat
      ∧ [0x11, (0x05 : Byte)].length ≠ 3 ∧ (none : Option Nat) ≠ some ([0x11, (0x05 : Byte)].length + 1) := by
  decide

theorem running_completes (line : Line) (f : Frame) (h : f.payload.length ≤ 32) :
    (receiving running line f).Completes line f where
  listening := by cases line <;> rfl
  attentive := by cases line <;> rfl
  payload := h
  partialFrame := ⟨false, by simp [receiving]⟩

/-- A whole frame but for its last character on both lines, and one whose check is wrong. -/
theorem test_witness_LastCharacterCompletesTheFrame :
    (receiving running .upline example17).Completes .upline example17
      ∧ (receiving running .downline reply7).Completes .downline reply7
      ∧ crc [0, 0, 0, 0] ≠ wordOf 0 0 :=
  ⟨running_completes _ _ (by decide), running_completes _ _ (by decide), by decide +kernel⟩

theorem test_witness_PartialFrameIsAbandoned :
    running.listening = true ∧ running.recognises ⟨.upline, false⟩ = true ∧ running.receiver .upline = .hunt
      ∧ ({ running with drAwaitsHigh := true } : State).awaitsHigh .downline = true
      ∧ ({ running with ur := .collect [0x20] none true } : State).receiver .upline = .collect [0x20] none true
      ∧ ({ running with ur := .discard } : State).receiver .upline = .discard := by decide

/-- Without power, with RESET_N low, and in STARTING. -/
theorem test_witness_ReceiversAreDeafBeforeService :
    ({ running with pins := { running.pins with powered := false } } : State).pins.powered = false
      ∧ ({ running with pins := { running.pins with resetN := false } } : State).pins.resetN = false
      ∧ State.reset.ts.mode = .starting ∧ State.reset.recognises ⟨.downline, false⟩ = true := by decide

/-- A reply, an exception, and a request to another address of the management range. -/
theorem test_witness_ForeignFrameIsDropped :
    (receiving running .upline reply7).Completes .upline reply7 ∧ reply7.dir = true
      ∧ ({ example17 with addr := 0xF0 } : Frame).addr ≠ (receiving running .upline example17).mgmtAddr
      ∧ (0xF0#8 ≤ ({ example17 with addr := 0xF0 } : Frame).addr) :=
  ⟨running_completes _ _ (by decide), by decide⟩

/-- UNCONFIGURED: a station request at both ends of the range, and a broadcast. -/
theorem test_witness_RequestsWithoutATable :
    (receiving unconfigured .upline example17).Completes .upline example17
      ∧ (receiving unconfigured .upline example17).ts.mode = .unconfigured .bankA
      ∧ example17.dir = false ∧ example17.exc = false
      ∧ (1#8 ≤ (0x01 : Byte) ∧ (0x01 : Byte) ≤ 0xEF#8) ∧ (1#8 ≤ (0xEF : Byte) ∧ (0xEF : Byte) ≤ 0xEF#8)
      ∧ ({ example17 with addr := 0 } : Frame).addr = 0 :=
  ⟨⟨by decide, by decide, by decide, false, by simp [receiving]⟩, by decide⟩

theorem running_takes (f : Frame) (hp : f.payload.length ≤ 32) (h : f.dir = false ∧ f.exc = false)
    (hs : 1#8 ≤ f.addr ∧ f.addr ≤ 0xEF#8) (hu : f.addr ≠ 0xF2) :
    (receiving running .upline f).TakesStationRequest service f :=
  ⟨running_completes _ _ hp, rfl, h, hs, hu⟩

theorem running_fresh (f g : Frame) : (receiving running .upline g).Fresh f := by
  intro t r h
  rw [show (receiving running .upline g).tag t = running.tag t from rfl, running_tag t] at h
  cases h

/-- A request whose key a HELD record has, and one whose key no record has. -/
theorem test_witness_DuplicateIsDropped :
    let f : Frame := { example17 with seq := 0x22 }
    let s := receiving (tracking (.held reply7 .station)) .upline f
    (s.TakesStationRequest service f ∧ ∃ t r, s.tag t = .busy r ∧ r.upAddr = f.addr ∧ r.upFn = f.fn ∧ r.upTag = f.seq)
      ∧ (receiving running .upline f).TakesStationRequest service f ∧ (receiving running .upline f).Fresh f := by
  refine ⟨⟨⟨⟨by decide, by decide, by decide, false, by simp [receiving]⟩, rfl, by decide, by decide, by decide⟩,
    7, _, rfl, by decide⟩, running_takes _ (by decide) (by decide) (by decide) (by decide), running_fresh _ _⟩

/-- A bank in canonical form with a hit and with a miss. -/
theorem test_witness_LookupFindsTheLowestQualifyingSlot :
    SlotMap.Wf running.nv.bankA.slots ∧ (running.nv.bankA.lookup 0x11 0x05).isSome = true
      ∧ running.nv.bankA.lookup 0x00 0x05 = none := by decide

/-- A table without the default entry: a request that finds nothing, under each miss action. -/
def sparse (miss : MissAction) : State :=
  { running with
    nv := { running.nv with bankA := { Bank.blank with header := .valid { header with missAction := miss } } }
    ts := { running.ts with mode := .running { service with header := { header with missAction := miss } } } }

theorem test_witness_MissActionApplies (miss : MissAction) :
    let v : Service := { service with header := { header with missAction := miss } }
    let s := receiving (sparse miss) .upline example17
    s.TakesStationRequest v example17 ∧ s.Fresh example17
      ∧ (s.nv.bank v.active).lookup example17.addr example17.fn = none ∧ v.header.missAction = miss := by
  refine ⟨⟨⟨by cases miss <;> decide, by cases miss <;> decide, by decide, false, by simp [receiving]⟩, rfl, by decide, by decide, ?_⟩,
    ?_, rfl, rfl⟩
  · cases miss <;> decide
  · intro t r h
    rw [show (receiving (sparse miss) .upline example17).tag t = running.tag t from rfl, running_tag t] at h
    cases h

/-- A request governed by each of the actions that send nothing downline: DROP, ANSWER, REJECT. -/
theorem test_witness_TableAnswersItself :
    let drop : Frame := { example17 with addr := 0x13, fn := 0x07 }
    let answer : Frame := { example17 with addr := 0x12, fn := 0x06 }
    let reject : Frame := { example17 with fn := 0x06 }
    ([drop, answer, reject].map fun f => ((running.nv.bank service.active).lookup f.addr f.fn).map (·.2.action))
        = [some .drop, some (.answer []), some (.reject 0x30)]
      ∧ ∀ f ∈ [drop, answer, reject], (receiving running .upline f).TakesStationRequest service f
        ∧ (receiving running .upline f).Fresh f := by
  refine ⟨by decide, fun f hf => ⟨?_, running_fresh _ _⟩⟩
  fin_cases hf <;> exact running_takes _ (by decide) (by decide) (by decide) (by decide)

/-- A FORWARD request one character too long, and one of the longest length with no tag FREE. -/
theorem test_witness_ForwardIsRefused :
    (running.nv.bank service.active).lookup 0x11 0x05 = some (0, forwardEntry)
      ∧ 32 < forwardParams.front.length + (List.replicate 32 (0 : Byte)).length
      ∧ forwardParams.front.length + (List.replicate 31 (0 : Byte)).length ≤ 32
      ∧ (receiving running .upline example17).TakesStationRequest service example17
      ∧ (receiving running .upline example17).Fresh example17
      ∧ ({ running with tt := { running.tt with freeList := [] } } : State).tt.freeList = [] :=
  ⟨by decide, by decide, by decide, running_takes _ (by decide) (by decide) (by decide) (by decide),
    running_fresh _ _, rfl⟩

theorem test_witness_RequestIsAdmitted :
    let s := receiving running .upline example17
    s.TakesStationRequest service example17 ∧ s.Fresh example17
      ∧ (s.nv.bank service.active).lookup example17.addr example17.fn = some (0, forwardEntry)
      ∧ forwardEntry.action = .forward forwardParams
      ∧ forwardParams.front.length + example17.payload.length ≤ 32
      ∧ s.tt.freeList = 0 :: (List.finRange 32).tail :=
  ⟨running_takes _ (by decide) (by decide) (by decide) (by decide), running_fresh _ _, by decide, rfl, by decide,
    by decide⟩

/-- A broadcast that hits a FORWARD entry with 15 and with 16 untracked frames waiting, one that misses,
and one through a DROP entry. -/
theorem test_witness_BroadcastIsQueuedOrDropped :
    let f : Frame := { example17 with addr := 0, fn := 0x20 }
    let full (n : Nat) : State :=
      { running with tt := { running.tt with dq := List.replicate n (.untracked f) } }
    (receiving running .upline f).Completes .upline f ∧ service.header.mgmtAddr ≠ 0
      ∧ ((running.nv.bank service.active).lookup f.addr f.fn).map (·.2.action) = some (.forward broadcastParams)
      ∧ broadcastParams.front.length + f.payload.length ≤ 32
      ∧ (full 15).tt.dq.countP DqEntry.isUntracked < 16 ∧ 16 ≤ (full 16).tt.dq.countP DqEntry.isUntracked
      ∧ (running.nv.bank service.active).lookup 0 0x05 = none
      ∧ ((running.nv.bankA.setSlot 2 (.valid { keyAddr := 0, keyFn := 0x05, action := .drop })).lookup 0 0x05).map
          (·.2.action) = some .drop :=
  ⟨running_completes _ _ (by decide), by decide⟩

/-- A queue of 15 frames and one of 16. -/
theorem test_witness_SynthesizedReplyIsOffered :
    (List.replicate 15 reply7).length < 16 ∧ 16 ≤ (congestedUp running).rt.uq.length := by decide

theorem tracking_takes (state : RecordState) :
    (receiving (tracking state) .downline reply7).TakesReply 7 reply7 :=
  ⟨⟨by rfl, by rfl, by decide, false, by simp [receiving]⟩, by decide, by decide⟩

/-- A downline frame with the direction bit clear, with tag 20h, for a FREE tag, for a RELEASING, QUARANTINE
and quiet tag, from another station, and for a HELD record. -/
theorem test_witness_UnplacedReplyIsCounted :
    (receiving running .downline example17).Completes .downline example17 ∧ example17.dir = false
      ∧ 32 ≤ ({ reply7 with seq := 0x20 } : Frame).seq.toNat
      ∧ (receiving running .downline reply7).TakesReply 7 reply7 ∧ running.tag 7 = .free
      ∧ ([TagState.releasing 20, .quarantine 20, .quiet].map fun x => (running.setTag 7 x).tag 7)
          = [.releasing 20, .quarantine 20, .quiet]
      ∧ ({ reply7 with addr := 0x43 } : Frame).addr ≠ (record7 .awaitReply).downAddr
      ∧ (tracking (.held reply7 .station)).tag 7 = .busy (record7 (.held reply7 .station)) :=
  ⟨running_completes _ _ (by decide), by decide, by decide,
    ⟨running_completes _ _ (by decide), by decide, by decide⟩, by decide⟩

/-- A matching reply with room in the queue, for a record in each of the three states that accept it. -/
theorem test_witness_ReplyIsDelivered :
    ∀ state ∈ [RecordState.awaitReply, .waitLine, .sending],
      let s := receiving (tracking state) .downline reply7
      s.TakesReply 7 reply7 ∧ s.tag 7 = .busy (record7 state) ∧ reply7.addr = (record7 state).downAddr
        ∧ reply7.fn = (record7 state).downFn ∧ (∀ reply origin, (record7 state).state ≠ .held reply origin)
        ∧ s.rt.uq.length < 16 := by
  intro state hs
  fin_cases hs <;> exact ⟨tracking_takes _, rfl, rfl, rfl, by simp [record7], by decide⟩

/-- The same with the queue full. -/
theorem test_witness_ReplyIsHeld :
    let s := receiving (congestedUp (tracking .sending)) .downline reply7
    s.TakesReply 7 reply7 ∧ s.tag 7 = .busy (record7 .sending) ∧ 16 ≤ s.rt.uq.length :=
  ⟨⟨⟨by rfl, by rfl, by decide, false, by simp [receiving]⟩, by decide, by decide⟩, rfl, by decide⟩

/-- A silent record with a retry left, and a record that is not in AWAIT_REPLY. -/
theorem test_witness_SilenceIsRetransmitted :
    (tracking .awaitReply).tag 7 = .busy (record7 .awaitReply)
      ∧ (record7 .awaitReply).retransmissions < (record7 .awaitReply).retryLimit
      ∧ (tracking .sending).tag 7 = .busy (record7 .sending) ∧ (record7 .sending).state ≠ .awaitReply := by
  decide

/-- A silent record with none left, with room in the queue and without. -/
theorem test_witness_ExhaustedRecordIsAnswered :
    let r : Record := { record7 .awaitReply with retransmissions := 2 }
    (running.setTag 7 (.busy r)).tag 7 = .busy r ∧ r.state = .awaitReply ∧ r.retryLimit ≤ r.retransmissions
      ∧ (running.setTag 7 (.busy r)).rt.uq.length < 16
      ∧ 16 ≤ (congestedUp (running.setTag 7 (.busy r))).rt.uq.length := by decide

theorem test_witness_QuarantineExpiryFreesTheTag :
    (running.setTag 31 (.quarantine 20)).tag 31 = .quarantine 20 ∧ ∀ c, running.tag 0 ≠ .quarantine c :=
  ⟨by decide, by simp [running_tag 0]⟩

theorem test_witness_QuietPeriodExpiryFreesAllTags :
    ({ State.reset with tt := { State.reset.tt with quietTimer := some 5 } } : State).tt.quietTimer = some 5
      ∧ running.tt.quietTimer = none := by decide

/-- DT SENDING; IDLE with its queue empty, with an untracked entry, and with a tracked one at its head. -/
theorem test_witness_DtTakesTheHead :
    let sending : State := { running with dt := some (DownFlight.start example17 .untracked) }
    let queued (x : DqEntry) : State := { tracking .waitLine with tt := { (tracking .waitLine).tt with dq := [x] } }
    sending.dt = some (DownFlight.start example17 .untracked) ∧ running.dt = none ∧ running.tt.dq = []
      ∧ (queued (.untracked example17)).tt.dq = [.untracked example17] ∧ (queued (.tracked 7)).dt = none
      ∧ (queued (.tracked 7)).tag 7 = .busy (record7 .waitLine) := by decide

/-- DT IDLE, and SENDING an untracked frame, a frame of a record in SENDING, in HELD, and of a RELEASING tag. -/
theorem test_witness_DtReportsTheFrameSent :
    let at7 (s : State) : State := { s with dt := some (DownFlight.start reply7 (.tracked 7)) }
    running.dt = none ∧ (DownFlight.start example17 .untracked).current = .untracked
      ∧ (DownFlight.start reply7 (.tracked 7)).current = .tracked 7
      ∧ (at7 (tracking .sending)).tag 7 = .busy (record7 .sending)
      ∧ (at7 (tracking (.held reply7 .stationInSending))).tag 7 = .busy (record7 (.held reply7 .stationInSending))
      ∧ (at7 (running.setTag 7 (.releasing 20))).tag 7 = .releasing 20 := by decide

theorem running_executes (fn : FunctionCode) (payload : List Byte) (h : payload.length ≤ 32) :
    (receiving running .upline (manage fn payload)).Executes (manage fn payload) :=
  ⟨running_completes _ _ h, ⟨rfl, rfl⟩, rfl, rfl, rfl, by intro r hr; cases hr⟩

theorem test_witness_FlushAbandonsEveryRecord :
    (receiving running .upline (manage 0x20 [])).Executes (manage 0x20 [])
      ∧ (manage 0x20 []).fn = 0x20#6 ∧ (manage 0x20 []).payload = [] :=
  ⟨running_executes _ _ (by decide), rfl, rfl⟩

/-- UT SENDING; IDLE with its queue empty; and with a full queue, a management reply, nothing, or a held
reply waiting. -/
theorem test_witness_UtTakesTheHead :
    let s := congestedUp running
    let held := congestedUp (tracking (.held reply7 .station))
    ({ running with ut := some (InFlight.start reply7) } : State).ut = some (InFlight.start reply7)
      ∧ running.ut = none ∧ running.rt.uq = []
      ∧ s.rt.uq = example17.ownReply false [] :: List.replicate 15 (example17.ownReply false [])
      ∧ ({ s with me := { s.me with holder := some reply7 } } : State).me.holder = some reply7
      ∧ s.me.holder = none ∧ s.rt.holdList = []
      ∧ ({ held with rt := { held.rt with holdList := [7] } } : State).rt.holdList = [7]
      ∧ held.tag 7 = .busy (record7 (.held reply7 .station)) := by decide

/-- UT IDLE, and SENDING an ordinary frame and the reply to RESTART, with UT_TAKE offered next and not, the
queue empty and not; and a restart due, with a head to take and with none. -/
theorem test_witness_UtReportsTheFrameSent :
    let reply := (manage 0x21 []).ownReply false []
    let s : State := { running with
      ut := some (InFlight.start reply), me := { running.me with state := .restartPending reply } }
    let due : State := { congestedUp s with ut := none, me := { s.me with state := .restartDue } }
    running.ut = none ∧ s.ut = some (InFlight.start reply)
      ∧ s.me.state = .restartPending (InFlight.start reply).frame
      ∧ running.me.state ≠ .restartPending (InFlight.start reply).frame
      ∧ s.pending.head? ≠ some .utTake ∧ ({ s with pending := [.utTake] } : State).pending.head? = some .utTake
      ∧ s.rt.uq = [] ∧ (congestedUp s).rt.uq ≠ []
      ∧ due.me.state = .restartDue ∧ due.pending = [] ∧ (∃ t, exec .utTake due = .next t)
      ∧ due.rt.uq = example17.ownReply false [] :: List.replicate 15 (example17.ownReply false [])
      ∧ ∃ t, exec .utTake { due with rt := .empty } = .next t :=
  ⟨rfl, rfl, rfl, by decide, by decide, rfl, rfl, by decide, rfl, rfl, ⟨_, rfl⟩, rfl, _, rfl⟩

/-- An operation in flight, and a latched fault; an accepted command, and one refused by its own tests. -/
theorem test_witness_StoreCommandsAtIntake :
    (operating (.checkBank .bankB) id).ts.op.isSome = true
      ∧ ({ running with ts := { running.ts with faultLatch := true } } : State).ts.faultLatch = true
      ∧ running.ts.op = none ∧ (Header.ofImage header.image).isSome = true ∧ overrideOf 0x01 = some true
      ∧ (∃ t p, Command.checkBank.run (manage 0x18 []) running = (.normal p, t))
      ∧ Command.programStage.run (manage 0x12 []) running = (.refusal .stageEmpty, running) :=
  ⟨rfl, rfl, rfl, by decide, by decide, ⟨_, _, rfl⟩, rfl⟩

/-- A part with slot 1 staged. -/
def staged (f : Bank → Bank) : State :=
  { running with
    nv := running.nv.mapBank f .bankB
    ts := { running.ts with staging := .page 0 (setAt (Vector.replicate 8 none) 1 (some forwardEntry)) } }

/-- A legal and an illegal image to stage, for slot 7 of page 0 and slot 8 of page 1, into an empty buffer
and into one that holds page 0, with an operation in flight and without. -/
theorem test_witness_ProgramStageAtIntake_staging :
    Entry.ofImage forwardEntry.image = some forwardEntry ∧ Entry.ofImage [] = none
      ∧ (operating (.checkBank .bankB) id).ts.op.isSome = true ∧ running.ts.op = none
      ∧ running.ts.staging = .empty
      ∧ (staged id).ts.staging = .page 0 (setAt (Vector.replicate 8 none) 1 (some forwardEntry))
      ∧ (0 : PageNo) = ⟨(7 : SlotNo).val / 8, by omega⟩ ∧ (0 : PageNo) ≠ ⟨(8 : SlotNo).val / 8, by omega⟩ := by
  decide

/-- The buffer empty; a staged page whose segment is locked; whose slot is not BLANK; and that is fit. -/
theorem test_witness_ProgramStageAtIntake :
    running.ts.staging = .empty
      ∧ ((staged (·.setLock 0 true)).nv.bank .bankB).locks.get ⟨(0 : PageNo).val / 8, by omega⟩ = true
      ∧ ((staged (·.setSlot 1 .torn)).nv.bank .bankB).slot (slotAt 0 1) ≠ .blank
      ∧ ((staged id).nv.bank .bankB).pageBlank 0 (setAt (Vector.replicate 8 none) 1 (some forwardEntry)) = true
      ∧ (staged id).ts.mode.standby = .bankB ∧ (staged id).ts.op = none := by decide

/-- Override flags 02h, 01h with KEYSW low and high, and 00h on a locked and an unlocked segment. -/
theorem test_witness_ErasesAtIntake :
    2 ≤ (0x02 : Byte).toNat ∧ running.pins.keysw = false ∧ (running.withKey true).pins.keysw = true
      ∧ ((staged (·.setLock 0 true)).nv.bank .bankB).locks.get 0 = true
      ∧ (running.nv.bank .bankB).locks.get 0 = false ∧ running.ts.op = none
      ∧ running.ts.faultLatch = false := by decide

/-- The standby header BLANK and VALID; an illegal image; no active bank and an active one; the target
segment locked, not BLANK, and BLANK with a slot to copy and with none; a bank ready for a commit and one
that is not. -/
theorem test_witness_OtherOperationsAtIntake :
    (running.nv.bank .bankB).header = .blank
      ∧ ((staged (·.setHeader (.valid newHeader))).nv.bank .bankB).header ≠ .blank
      ∧ unconfigured.ts.mode.active = none ∧ running.ts.mode.active = some .bankA
      ∧ ((staged (·.setLock 0 true)).nv.bank .bankB).locks.get 0 = true
      ∧ ((staged (·.setSlot 1 .torn)).nv.bank .bankB).segmentBlank 0 = false
      ∧ (running.nv.bank .bankB).segmentBlank 0 = true
      ∧ (running.nv.bank .bankA).nextToCopy 0 0 = some (0, forwardEntry)
      ∧ (running.nv.bank .bankA).nextToCopy 6 0 = none ∧ Header.ofImage [] = none
      ∧ (running.nv.bank .bankB).ready = false
      ∧ ((staged (·.setHeader (.valid newHeader))).nv.bank .bankB).ready = true
      ∧ SlotMap.Wf running.nv.bankA.slots := by decide

/-- A page write with another slot staged and as the last; a header write; a copy with more to copy and as
the last; each with an image read back equal and different. -/
theorem test_witness_ElementWriteEnds :
    (staged id).ts.staging.next 1 = some (1, forwardEntry) ∧ (staged id).ts.staging.next 2 = none
      ∧ ((operating (.copySegment .bankB 0 0 forwardEntry) id).nv.bank (otherBank .bankB)).nextToCopy 0 10 = none
      ∧ (((operating (.copySegment .bankB 0 0 forwardEntry) id).nv.bank (otherBank .bankB)).nextToCopy 0 1).isSome
          = true
      ∧ (operating (.programHeader .bankB header) id).ts.op = some (.programHeader .bankB header)
      ∧ List.replicate 20 (0 : Byte) ≠ forwardEntry.image := by decide

/-- A segment erase; an ERASE BANK with a segment left and with none; its header erase, with every segment
locked and with one unlocked. -/
theorem test_witness_ErasesEnd :
    (operating (.eraseSegment .bankB 1 true) id).ts.op = some (.eraseSegment .bankB 1 true)
      ∧ (operating (.eraseBank .bankB false (.segment 7)) id).ts.op = some (.eraseBank .bankB false (.segment 7))
      ∧ (∀ m : SegmentNo, ¬ (7 : SegmentNo).val + 1 ≤ m.val)
      ∧ (0 ≤ (1 : SegmentNo).val
        ∧ ((operating (.eraseBank .bankB false .header) (·.setLock 0 true)).nv.bank .bankB).locks.get 1 = false)
      ∧ ((operating (.eraseBank .bankB false .header) (·.setLock 0 true)).nv.bank .bankB).locks.get 0 = true := by
  decide

theorem test_witness_LockAndCheckEnd :
    (operating (.lockSegment .bankA 3) id).ts.op = some (.lockSegment .bankA 3)
      ∧ (operating (.checkBank .bankB) id).ts.op = some (.checkBank .bankB) ∧ running.ts.op = none
      ∧ running.ts.startUp = .idle ∧ State.reset.ts.startUp = .scanning := by decide

/-- The three stages of a commit, a check equal and different, a record read back equal and different. -/
theorem test_witness_CommitStages :
    let w := Bank.blank.check
    let r : PointerRecord := { bank := .bankB, generation := 7, check := w }
    (operating (.commit .bankB w .checking) id).ts.op = some (.commit .bankB w .checking)
      ∧ ((operating (.commit .bankB w .checking) id).nv.bank .bankB).check = w
      ∧ ((operating (.commit .bankB (w + 1) .checking) id).nv.bank .bankB).check ≠ w + 1
      ∧ (operating (.commit .bankB w (.erased w)) id).ts.op = some (.commit .bankB w (.erased w))
      ∧ (operating (.commit .bankB w (.writing r)) id).ts.op = some (.commit .bankB w (.writing r))
      ∧ ((operating (.commit .bankB w (.writing r)) (·.setHeader (.valid newHeader))).nv.bank r.bank).header
          = .valid newHeader
      ∧ ({ r with generation := 8 } : PointerRecord) ≠ r := by
  refine ⟨rfl, rfl, ?_, rfl, rfl, rfl, ?_⟩
  · intro h
    have h' : Bank.blank.check = Bank.blank.check + 1 := h
    generalize Bank.blank.check = w at h'
    bv_omega
  · intro h
    exact absurd (congrArg PointerRecord.generation h) (by decide)

/-- Images at the ends of the ranges of R29 to R34: a retry limit of 3 and of 4, a strip count of 4 and of 5,
reasons DFh and E0h, key addresses EFh and F0h, and a key-0 FORWARD with its out address FFh and not. -/
theorem test_witness_ImagesReadBack_entries :
    let forward (key out retry strip : Byte) : List Byte := [key, 0xFF, 0, out, 0x3F, retry, 0, strip] ++ List.replicate 12 0
    let reject (reason : Byte) : List Byte := [0xFF, 0, 2] ++ List.replicate 10 0 ++ [reason] ++ List.replicate 6 0
    [forward 0xEF 0x01 3 4, reject 0xDF, forward 0 0xFF 0 0].all (fun i => (Entry.ofImage i).isSome) = true
      ∧ [forward 0xEF 0x01 4 4, forward 0xEF 0x01 3 5, reject 0xE0, forward 0xF0 0x01 3 4, forward 0 0x01 0 0].all
          (fun i => Entry.ofImage i = none) = true := by decide

/-- A legal entry of each action and a legal header; and header images at the ends of their ranges. -/
theorem test_witness_ImagesReadBack :
    (∀ p ∈ workedSlots, ∀ e, p.2 = .valid e → e.legal = true) ∧ header.legal = true
      ∧ (Entry.ofImage forwardEntry.image).isSome = true
      ∧ (Header.ofImage [0xFE, 1, 1, 1, 0, 0, 0, 0]).isSome = true
      ∧ Header.ofImage [0xFF, 1, 1, 1, 0, 0, 0, 0] = none :=
  ⟨workedSlots_legal, by decide⟩

/-- RESTART pending and due; the holder occupied; a replay; a command with and without a refusal of its own. -/
theorem test_witness_ManagementIntake :
    let f := manage 0x18 []
    let s := receiving running .upline f
    let p : Replay := { tag := f.seq, fn := f.fn, check := f.check, reply := f.ownReply false [1] }
    s.Completes .upline f ∧ f.dir = false ∧ f.exc = false ∧ f.addr = s.mgmtAddr ∧ s.me.state = .ready
      ∧ ({ s with me := { s.me with replay := some p } } : State).me.replay = some p
      ∧ s.Executes f ∧ Command.parse f.fn f.payload = .ok .checkBank
      ∧ (∃ q t, Command.checkBank.run f (s.afterFrame .upline false) = (.normal q, t) ∧ t.rt.uq = s.rt.uq)
      ∧ Command.parse 0x12 [] = .ok .programStage
      ∧ Command.programStage.run f (s.afterFrame .upline false)
          = (.refusal .stageEmpty, s.afterFrame .upline false)
      ∧ Command.parse 0x3F [] = .error .unknownCommand :=
  ⟨running_completes _ _ (by decide), rfl, rfl, rfl, rfl, rfl, running_executes _ _ (by decide), rfl,
    ⟨_, _, rfl, rfl⟩, rfl, rfl, rfl⟩

/-- R172: the command table at the codes 12h and 18h, and at COMMIT's two characters; an image of each length. -/
theorem test_commands_of_the_table :
    Command.parse 0x12 [] = .ok .programStage ∧ Command.parse 0x18 [] = .ok .checkBank
      ∧ Command.parse 0x19 [0x12, 0x34] = .ok (.commit 0x1234)
      ∧ Command.parse 0x04 [0x01, 0x01, 0xFF] = .ok (.readEntry .bankB 511)
      ∧ Command.parse 0x17 [0x01, 0x07] = .ok (.lockSegment .bankB 7)
      ∧ forwardEntry.image.length = 20 ∧ header.image.length = 8 := by decide

/-- A code that is not listed; a payload one too long; a bank, slot, segment and tag just out of range. -/
theorem test_witness_ManagementRefusals :
    commandLength 0x08 = none ∧ commandLength 0x14 = some 2 ∧ [0, 0, (0 : Byte)].length ≠ 2
      ∧ 2 ≤ (0x02 : Byte).toNat ∧ 512 ≤ (wordOf 0x02 0x00).toNat ∧ 8 ≤ (0x08 : Byte).toNat
      ∧ 32 ≤ (0x20 : Byte).toNat := by decide

/-- READ STATUS, READ ENTRY of the last slot, READ HEADER and READ SEGMENTS, executed; and an erase in
flight. -/
theorem test_witness_ReadsAreReported_others :
    (receiving running .upline (manage 0x01 [])).Executes (manage 0x01 [])
      ∧ (receiving running .upline (manage 0x04 [0x01, 0x01, 0xFF])).Executes (manage 0x04 [0x01, 0x01, 0xFF])
      ∧ [BitVec.ofNat 8 ((511 : SlotNo).val / 256), BitVec.ofNat 8 ((511 : SlotNo).val % 256)] = [0x01#8, 0xFF#8]
      ∧ (receiving running .upline (manage 0x05 [0x00])).Executes (manage 0x05 [0x00])
      ∧ (receiving running .upline (manage 0x07 [0x01])).Executes (manage 0x07 [0x01])
      ∧ (operating (.eraseSegment .bankB 7 false) id).ts.op.bind StoreOp.erasing = some (.bankB, some 7)
      ∧ running.ts.op.bind StoreOp.erasing = none :=
  ⟨running_executes _ _ (by decide), running_executes _ _ (by decide), by decide,
    running_executes _ _ (by decide), running_executes _ _ (by decide), rfl, rfl⟩

theorem test_witness_ReadsAreReported :
    (receiving running .upline (manage 0x03 [])).Executes (manage 0x03 []) ∧ (manage 0x03 []).payload = []
      ∧ (receiving running .upline (manage 0x06 [31])).Executes (manage 0x06 [31])
      ∧ (manage 0x06 [31]).payload = [BitVec.ofNat 8 (31 : Tag).val] ∧ TagState.free.isBusy = false :=
  ⟨running_executes _ _ (by decide), rfl, running_executes _ _ (by decide), by decide, rfl⟩

/-- A request executed with an operation in flight and with none. -/
theorem test_witness_ClearFaultAndRestartAtIntake :
    let f := manage 0x1A []
    let s := receiving (operating (.checkBank .bankB) id) .upline f
    s.Executes f ∧ s.ts.op.isSome = true ∧ (receiving running .upline f).Executes f
      ∧ (receiving running .upline f).ts.op = none :=
  ⟨⟨⟨by rfl, by rfl, by decide, false, by simp [receiving]⟩, ⟨rfl, rfl⟩, rfl, rfl, rfl, by intro r hr; cases hr⟩, rfl,
    running_executes _ _ (by decide), rfl⟩

end Sys2Proof.Tests
end

section
/-! PROOFS. What the laws of the Table Store speak of (the memory, the store status, and whether the part is
out of reset), and that nothing on the lines, in the tracker or on the Return Path touches it: a command
that is none of the store's own reaches it through a management command alone. -/

namespace Sys2Proof.Machine

/-- The part of the state that the laws of the Table Store speak of. -/
def State.storeView (s : State) : Nonvolatile × Store × Bool := (s.nv, s.ts, s.outOfReset)

theorem State.storeView_eq {s t : State} :
    t.storeView = s.storeView ↔ t.nv = s.nv ∧ t.ts = s.ts ∧ t.outOfReset = s.outOfReset := by
  simp [State.storeView]

/-! ### What leaves it as it is -/

section Unchanged
variable (s : State)

@[simp] theorem State.count_storeView (c : Counter) : (s.count c).storeView = s.storeView := rfl
@[simp] theorem State.setTag_storeView (t : Tag) (x : TagState) : (s.setTag t x).storeView = s.storeView := rfl
@[simp] theorem State.freeTag_storeView (t : Tag) : (s.freeTag t).storeView = s.storeView := rfl
@[simp] theorem State.enqueueDown_storeView (x : DqEntry) : (s.enqueueDown x).storeView = s.storeView := rfl
@[simp] theorem State.withdraw_storeView (t : Tag) : (s.withdraw t).storeView = s.storeView := rfl
@[simp] theorem State.enqueueUp_storeView (f : Frame) : (s.enqueueUp f).storeView = s.storeView := rfl
@[simp] theorem State.admitRecord_storeView (t : Tag) (rest : List Tag) (r : Record) :
    (s.admitRecord t rest r).storeView = s.storeView := rfl
@[simp] theorem State.flush_storeView : s.flush.storeView = s.storeView := by
  simp [State.storeView, State.outOfReset]
@[simp] theorem State.clearCounters_storeView : s.clearCounters.storeView = s.storeView := rfl
@[simp] theorem State.restart_storeView : s.restart.storeView = s.storeView := rfl
@[simp] theorem State.sendCharacters_storeView : s.sendCharacters.storeView = s.storeView := rfl
@[simp] theorem State.withKey_storeView (level : Bool) : (s.withKey level).storeView = s.storeView := rfl

@[simp] theorem State.setReceiver_storeView (r : Receiver) (line : Line) :
    (s.setReceiver r line).storeView = s.storeView := by
  cases line <;> rfl

@[simp] theorem State.setAwaitsHigh_storeView (b : Bool) (line : Line) :
    (s.setAwaitsHigh b line).storeView = s.storeView := by
  cases line <;> rfl

@[simp] theorem State.offerSynthesized_storeView (f : Frame) :
    (s.offerSynthesized f).storeView = s.storeView := by
  rcases s.offerSynthesized_cases f with ⟨-, h⟩ | ⟨-, h⟩ <;> simp [h]

@[simp] theorem State.offerManagement_storeView (f : Frame) :
    (s.offerManagement f).storeView = s.storeView := by
  rcases s.offerManagement_cases f with ⟨-, h⟩ | ⟨-, h⟩ <;> rw [h] <;> rfl

@[simp] theorem State.conclude_storeView (q : Received) (a : Answer) :
    (s.conclude q a).storeView = s.storeView := State.offerManagement_storeView _ _

@[simp] theorem State.endRecord_storeView (t : Tag) (r : Record) (o : Origin) :
    (s.endRecord t r o).storeView = s.storeView := by
  rcases s.endRecord_cases t r o with ⟨-, h⟩ | ⟨-, -, -, h⟩ | ⟨-, -, h⟩ <;> simp [h]

@[simp] theorem State.deliver_storeView (t : Tag) (r : Record) (reply : Frame) (o : Origin) :
    (s.deliver t r reply o).storeView = s.storeView := by
  rcases s.deliver_cases t r reply o with ⟨-, h⟩ | ⟨-, h⟩
  · simp [h]
  · rw [h]; rfl

@[simp] theorem State.answer_storeView (c : Counter) (reply : Frame) :
    (s.answer c reply).storeView = s.storeView := by
  simp [State.answer]

@[simp] theorem State.translate_storeView (v : Service) (f : Frame) :
    (s.translate v f).storeView = s.storeView := by
  rcases s.translate_cases v f with h | ⟨_, _, h⟩ | ⟨n, _, p, -, -, h⟩
  · simp [h]
  · simp [h]
  · rcases s.forward_cases v n p f with ⟨-, h'⟩ | ⟨-, -, h'⟩ | ⟨_, _, -, -, h'⟩ <;> simp [h, h']

@[simp] theorem State.stationRequest_storeView (f : Frame) :
    (s.stationRequest f).storeView = s.storeView := by
  unfold State.stationRequest
  split
  · rfl
  · simp
  · split <;> simp

@[simp] theorem State.broadcastRequest_storeView (f : Frame) :
    (s.broadcastRequest f).storeView = s.storeView := by
  rcases s.broadcastRequest_cases f with h | h | h | ⟨_, -, h⟩ <;> simp [h]

@[simp] theorem State.takeRequest_storeView (f : Frame) : (s.takeRequest f).storeView = s.storeView := by
  unfold State.takeRequest
  split <;> simp

@[simp] theorem State.matchReply_storeView (t : Tag) (f : Frame) :
    (s.matchReply t f).storeView = s.storeView := by
  rcases s.matchReply_cases t f with h | h | ⟨r, -, -, ⟨-, h⟩ | ⟨-, h⟩ | ⟨-, h⟩⟩ <;> simp [h]

@[simp] theorem State.takeReply_storeView (f : Frame) : (s.takeReply f).storeView = s.storeView := by
  unfold State.takeReply
  split <;> simp

@[simp] theorem State.restartCutsShort_storeView : s.restartCutsShort.storeView = s.storeView := by
  rcases s.restartCutsShort_cases with ⟨-, h⟩ | ⟨_, -, h⟩
  · simp [h]
  · rw [h]; exact s.restart_storeView

@[simp] theorem State.settleRestart_storeView : s.settleRestart.storeView = s.storeView := by
  unfold State.settleRestart
  split <;> simp

@[simp] theorem State.restartReported_storeView : s.restartReported.storeView = s.storeView := by
  rcases s.restartReported_cases with ⟨-, h⟩ | ⟨-, -, h⟩
  · simp [h]
  · rw [h]; rfl

@[simp] theorem State.tick_storeView : s.tick.storeView = s.storeView := by
  rcases s.tick_cases with ⟨-, h⟩ | ⟨-, h⟩ <;> simp [h]

end Unchanged

theorem State.arbitrate_storeView {s t : State} (h : s.arbitrate = .next t) : t.storeView = s.storeView := by
  rcases State.arbitrate_next h with ⟨_, -, rfl⟩ | ⟨-, -, rfl⟩ | ⟨_, _, _, _, _, -, -, -, -, rfl⟩
  · rfl
  · rfl
  · rw [State.endRecord_storeView]; rfl

/-! ### The commands of the lines and the timers -/

theorem execUtTake_storeView {s t : State} (h : execUtTake s = .next t) : t.storeView = s.storeView := by
  unfold execUtTake at h
  split at h
  · cases h
  split at h
  · simp only [settled, Host.Outcome.next.injEq] at h
    simp [← h]
  · unfold settled at h
    split at h
    · rename_i u hu
      simp only [Host.Outcome.next.injEq] at h
      rw [← h, State.settleRestart_storeView, State.arbitrate_storeView hu]
      rfl
    · rename_i hno
      exact absurd h (hno t)

theorem execUplineFrameSent_storeView {s t : State} (h : execUplineFrameSent s = .next t) :
    t.storeView = s.storeView := by
  unfold execUplineFrameSent at h
  split at h
  · cases h
  · obtain rfl := Host.Outcome.next.inj h
    split
    · simp
    · rfl

theorem execDtTake_storeView {s t : State} (h : execDtTake s = .next t) : t.storeView = s.storeView := by
  unfold execDtTake at h
  split at h
  · cases h
  split at h
  · obtain rfl := Host.Outcome.next.inj h; rfl
  · obtain ⟨_, -, rfl⟩ := State.sendTracked_next h; rfl
  · obtain rfl := Host.Outcome.next.inj h; rfl

theorem execDownlineFrameSent_storeView {s t : State} (h : execDownlineFrameSent s = .next t) :
    t.storeView = s.storeView := by
  unfold execDownlineFrameSent at h
  split at h
  · cases h
  · rename_i d _
    obtain rfl := Host.Outcome.next.inj h
    cases d.current <;> rfl

theorem execReplyTimerExpiry_storeView {s t : State} {g : Tag} (h : execReplyTimerExpiry g s = .next t) :
    t.storeView = s.storeView := by
  unfold execReplyTimerExpiry at h
  split at h
  · split at h
    · obtain rfl := Host.Outcome.next.inj h
      split <;> simp [State.retransmit, State.exhaust]
    · cases h
  · cases h

theorem execQuarantineExpiry_storeView {s t : State} {g : Tag} (h : execQuarantineExpiry g s = .next t) :
    t.storeView = s.storeView := by
  unfold execQuarantineExpiry at h
  split at h
  · obtain rfl := Host.Outcome.next.inj h; rfl
  · cases h

theorem execQuietPeriodExpiry_storeView {s t : State} (h : execQuietPeriodExpiry s = .next t) :
    t.storeView = s.storeView := by
  unfold execQuietPeriodExpiry at h
  split at h
  · obtain rfl := Host.Outcome.next.inj h; rfl
  · cases h

theorem execStartBit_storeView {s t : State} {fall : Fall} (h : execStartBit fall s = .next t) :
    t.storeView = s.storeView := by
  obtain rfl := Host.Outcome.next.inj h
  split <;> simp

/-- An event at a receiver that hands no frame on. -/
theorem State.receive_storeView {s : State} {line : Line} {x : Receiver × Arrival}
    (hx : ∀ q, x.2 ≠ .good q) : (s.receive line x).storeView = s.storeView := by
  rcases s.receive_cases line x with ⟨-, h⟩ | ⟨-, h⟩ | ⟨-, h⟩ | ⟨q, hq, -⟩
  · simp [h]
  · simp [h]
  · simp [h]
  · exact absurd hq (hx q)

theorem execCharacterError_storeView {s t : State} {fall : Fall} (h : execCharacterError fall s = .next t) :
    t.storeView = s.storeView := by
  obtain rfl := Host.Outcome.next.inj h
  split
  · simp only
    split
    · rw [State.receive_storeView, State.setAwaitsHigh_storeView]
      cases s.receiver fall.line <;> simp [Receiver.takeError]
    · simp
  · rfl

theorem execGapTimerExpiry_storeView {s t : State} {line : Line} (h : execGapTimerExpiry line s = .next t) :
    t.storeView = s.storeView := by
  unfold execGapTimerExpiry at h
  split at h
  · obtain rfl := Host.Outcome.next.inj h
    exact State.receive_storeView (by simp)
  · cases h

/-! ### The way to the store: a management command -/

/-- A management command runs, in a state that differs from `s` in nothing the store's laws speak of, and
leaves `t` as far as they speak of it. -/
def State.RunsCommand (s t : State) : Prop :=
  ∃ (u : State) (f : Frame) (c : Command), u.storeView = s.storeView ∧ t.storeView = (c.run f u).2.storeView

theorem State.RunsCommand.of_view {s s' t : State} (h : s'.RunsCommand t) (hs : s'.storeView = s.storeView) :
    s.RunsCommand t := by
  obtain ⟨u, f, c, hu, ht⟩ := h
  exact ⟨u, f, c, hu.trans hs, ht⟩

/-- The Management Engine runs a command, or leaves the store alone (R167 to R170). -/
theorem State.takeManagement_storeView (s : State) (q : Received) :
    (s.takeManagement q).storeView = s.storeView ∨ s.RunsCommand (s.takeManagement q) := by
  have execute : (s.execute q).storeView = s.storeView ∨ s.RunsCommand (s.execute q) := by
    unfold State.execute
    split
    · exact .inl (by simp)
    · rename_i c _
      exact .inr ⟨s, q.frame, c, rfl, by simp⟩
  unfold State.takeManagement
  split
  · exact .inl rfl
  · exact .inl rfl
  · split
    · exact .inl (by simp)
    · unfold State.replayOrExecute
      split
      · split
        · exact .inl (by simp)
        · exact execute
      · exact execute

/-- A good frame handed on runs a management command, or leaves the store alone (R13, R14). -/
theorem State.handOn_storeView (s : State) (q : Received) (line : Line) :
    (s.handOn q line).storeView = s.storeView ∨ s.RunsCommand (s.handOn q line) := by
  cases line with
  | downline => exact .inl (by simp [State.handOn])
  | upline =>
    rcases s.handOnUpline_cases q with ⟨-, -, -, h⟩ | ⟨-, h⟩
    · simpa only [State.handOn, h] using s.takeManagement_storeView q
    · exact .inl (by simp [State.handOn, h])

/-- CHARACTER runs a management command, and then the part was listening, or leaves the store alone. -/
theorem execCharacter_storeView {s t : State} {fall : Fall} {byte : Byte} {lead keysw : Bool}
    (h : execCharacter fall byte lead keysw s = .next t) :
    t.storeView = s.storeView ∨ (s.listening = true ∧ s.RunsCommand t) := by
  obtain rfl := Host.Outcome.next.inj h
  have key : (s.withKey keysw).storeView = s.storeView := rfl
  split
  · simp only
    split
    · rename_i hl
      set x := (s.receiver fall.line).takeCharacter byte lead
      set u := (s.withKey keysw).setAwaitsHigh false fall.line with hu
      have hview : u.storeView = s.storeView := by simp [hu]
      change (u.receive fall.line x).storeView = _ ∨ _ ∧ s.RunsCommand (u.receive fall.line x)
      rcases u.receive_cases fall.line x with ⟨-, h⟩ | ⟨-, h⟩ | ⟨-, h⟩ | ⟨q, -, h⟩
      · exact .inl (by simp [h, hview])
      · exact .inl (by simp [h, hview])
      · exact .inl (by simp [h, hview])
      · rw [h]
        have hview' : ((u.setReceiver x.1 fall.line).count (framesCounter fall.line)).storeView
            = s.storeView := by simp [hview]
        rcases State.handOn_storeView ((u.setReceiver x.1 fall.line).count (framesCounter fall.line)) q
          fall.line with h' | h'
        · exact .inl (h'.trans hview')
        · exact .inr ⟨hl, h'.of_view hview'⟩
    · exact .inl (((s.withKey keysw).setAwaitsHigh_storeView false fall.line).trans key)
  · exact .inl key

end Sys2Proof.Machine
end

section
/-! PROOFS. The laws of the Table Store between two stages: what they come to when no element carries a
mark, how the stage in flight leads there, and how the next operation or stage leads back to them. -/

namespace Sys2Proof.Machine

/-! ### Out of reset and past start-up -/

/-- The part is out of reset and start-up has ended: the store's commands run here alone. -/
structure State.Live (s : State) : Prop where
  outOfReset : s.outOfReset = true
  started : s.ts.mode ≠ .starting
  idle : s.ts.startUp = .idle

/-- What makes a part live is the same in both states. -/
structure State.SameStage (s t : State) : Prop where
  mode : t.ts.mode = s.ts.mode
  startUp : t.ts.startUp = s.ts.startUp
  outOfReset : t.outOfReset = s.outOfReset

theorem State.SameStage.live {s t : State} (h : s.SameStage t) (hs : s.Live) : t.Live :=
  ⟨h.outOfReset.trans hs.outOfReset, h.mode ▸ hs.started, h.startUp.trans hs.idle⟩

theorem State.SameStage.trans {s t u : State} (h : s.SameStage t) (h' : t.SameStage u) : s.SameStage u :=
  ⟨h'.mode.trans h.mode, h'.startUp.trans h.startUp, h'.outOfReset.trans h.outOfReset⟩

theorem State.sameStage_of_view {s t : State} (h : t.storeView = s.storeView) : s.SameStage t := by
  obtain ⟨-, hts, hout⟩ := State.storeView_eq.1 h
  exact ⟨congrArg _ hts, congrArg _ hts, hout⟩

/-- Of a live part the law of reset says nothing. -/
theorem State.Live.resetLaw {s : State} (h : s.Live) : s.ResetLaw := by
  refine ⟨fun ho => ?_, fun hm => absurd hm h.started, fun _ => ?_⟩
  · rw [h.outOfReset] at ho; cases ho
  · simp [h.started, h.idle]

/-- A part that is not live takes nothing, and is quiescent. -/
theorem State.ResetLaw.live_or_quiescent {s : State} (h : s.ResetLaw) :
    s.Live ∨ s.Quiescent ∧ s.listening = false ∧ s.ts.mode = .starting := by
  obtain ⟨hreset, hstarting, hstage⟩ := h
  cases ho : s.outOfReset with
  | false =>
    obtain ⟨hq, hts, -⟩ := hreset ho
    exact .inr ⟨hq, by simp [State.listening, ho], by rw [hts]; rfl⟩
  | true =>
    by_cases hm : s.ts.mode = .starting
    · exact .inr ⟨(hstarting hm).1, by simp [State.listening, hm], hm⟩
    · exact .inl ⟨ho, hm, by simpa [hm] using hstage ho⟩

/-- An operation is in flight in a live part alone (R120). -/
theorem State.StoreInv.live_of_op {s : State} (h : s.StoreInv) {op : StoreOp} (ho : s.ts.op = some op) :
    s.Live := by
  obtain ⟨-, hm, -⟩ := h.operation op ho
  rcases h.reset.live_or_quiescent with hl | ⟨-, -, hs⟩
  · exact hl
  · exact absurd hs hm

/-- A part that listens is live. -/
theorem State.ResetLaw.live_of_listening {s : State} (h : s.ResetLaw) (hl : s.listening = true) : s.Live := by
  rcases h.live_or_quiescent with hl' | ⟨-, hn, -⟩
  · exact hl'
  · rw [hn] at hl; cases hl

/-- What the sparing of the locks depends on. -/
theorem StoreOp.sparesLocks_congr {s t : State} (op : StoreOp) (hlocked : t.locked = s.locked)
    (hstaging : t.ts.staging = s.ts.staging) : op.SparesLocks t ↔ op.SparesLocks s := by
  cases op <;> simp only [StoreOp.SparesLocks, hlocked, hstaging]

/-- What the law of the slots yet to be written depends on. -/
theorem StoreOp.blankAhead_congr {s t : State} (op : StoreOp) (hnv : t.nv = s.nv)
    (hstaging : t.ts.staging = s.ts.staging) : op.BlankAhead t ↔ op.BlankAhead s := by
  cases op <;> simp only [StoreOp.BlankAhead, hnv, hstaging]

theorem State.locked_congr {s t : State} (h : t.nv = s.nv) : t.locked = s.locked := by
  funext b n; simp only [State.locked, h]

/-- The laws of the store depend on what `storeView` holds, but for the law of reset. -/
theorem State.StoreInv.of_view {s t : State} (h : s.StoreInv) (hv : t.storeView = s.storeView)
    (hr : t.ResetLaw) : t.StoreInv := by
  obtain ⟨-, hbanks, hstaging, hservice, hoperation, hcommit, hmarks, hlocks, hahead⟩ := h
  obtain ⟨hnv, hts, hout⟩ := State.storeView_eq.1 hv
  have hlocked := State.locked_congr hnv
  have hspares := fun op : StoreOp => op.sparesLocks_congr hlocked (congrArg Store.staging hts)
  have hblank := fun op : StoreOp => op.blankAhead_congr hnv (congrArg Store.staging hts)
  refine ⟨hr, ?_, ?_, ?_, ?_, ?_, ?_, ?_, ?_⟩
  · simpa only [State.BankLaw, hnv] using hbanks
  · simpa only [State.StagingLaw, hts] using hstaging
  · simpa only [State.ServiceLaw, hnv, hts] using hservice
  · simpa only [State.OperationLaw, hts] using hoperation
  · simpa only [State.CommitLaw, hnv, hts] using hcommit
  · simpa only [State.MarkLaw, hnv, hts, hout] using hmarks
  · simpa only [State.LockLaw, hnv, hts, hlocked, hspares] using hlocks
  · simpa only [State.BlankAheadLaw, hts, hblank] using hahead

/-! ### Sound banks -/

/-- An element that a write may leave: TORN, or VALID with a legal image (R125). -/
def Element.Written {α : Type} (legal : α → Bool) : Element α → Prop
  | .valid x => legal x = true
  | .torn => True
  | _ => False

theorem Bank.Sound.setSlot {k : Bank} (h : k.Sound) (n : SlotNo) {x : Slot}
    (hx : ∀ e, x = .valid e → e.legal = true) : (k.setSlot n x).Sound := by
  refine ⟨SlotMap.wf_write n x h.canonical, fun j e he => ?_, h.header⟩
  rw [Bank.slot_setSlot] at he
  split at he
  · exact hx e he
  · exact h.entries j e he

theorem Bank.Sound.setHeader {k : Bank} (h : k.Sound) {x : Element Header}
    (hx : ∀ y, x = .valid y → y.legal = true) : (k.setHeader x).Sound :=
  ⟨h.canonical, h.entries, hx⟩

theorem Bank.Sound.setCondition {k : Bank} (h : k.Sound) (n : SegmentNo) (c : SegmentCondition) :
    (k.setCondition n c).Sound :=
  ⟨h.canonical, h.entries, h.header⟩

theorem Bank.Sound.setLock {k : Bank} (h : k.Sound) (n : SegmentNo) (lock : Bool) : (k.setLock n lock).Sound :=
  ⟨h.canonical, h.entries, h.header⟩

theorem Bank.slot_clear (k : Bank) (cleared : SlotNo → Bool) (j : SlotNo) :
    ({ k with slots := SlotMap.clear k.slots cleared } : Bank).slot j
      = if cleared j then .blank else k.slot j :=
  SlotMap.read_clear _ _ _

theorem Bank.Sound.clear {k : Bank} (h : k.Sound) (cleared : SlotNo → Bool) :
    ({ k with slots := SlotMap.clear k.slots cleared } : Bank).Sound := by
  refine ⟨SlotMap.wf_clear cleared h.canonical, fun j e he => ?_, h.header⟩
  rw [Bank.slot_clear] at he
  split at he
  · cases he
  · exact h.entries j e he

theorem Bank.segment_segmentErased (k : Bank) (n m : SegmentNo) (override : Bool) :
    (k.segmentErased n override).segments.get m = if n = m then .normal else k.segments.get m :=
  get_setAt _ _ _ _

theorem Bank.Sound.segmentErased {k : Bank} (h : k.Sound) (n : SegmentNo) (override : Bool) :
    (k.segmentErased n override).Sound := by
  obtain ⟨hwf, hentries, hheader⟩ := h.clear (fun j => segmentOf j = n)
  exact ⟨hwf, hentries, hheader⟩

theorem Bank.slot_eq_scanned {k : Bank} {n : SlotNo} {e : Entry} (h : k.scanned.slot n = .valid e) :
    k.slot n = .valid e := by
  rw [Bank.slot_scanned] at h
  cases hx : k.slot n <;> simp_all [Element.scanned]

theorem Bank.header_eq_scanned {k : Bank} {x : Header} (h : k.scanned.header = .valid x) :
    k.header = .valid x := by
  change k.header.scanned = _ at h
  cases hx : k.header <;> simp_all [Element.scanned]

theorem Element.scanned_ne_blank {α : Type} {x : Element α} (h : x ≠ .blank) : x.scanned ≠ .blank := by
  cases x <;> simp_all [Element.scanned]

theorem Element.scanned_ne_programming {α : Type} (x : Element α) : x.scanned ≠ .programming := by
  cases x <;> simp [Element.scanned]

theorem SegmentCondition.scanned_ne_erasing (x : SegmentCondition) : x.scanned ≠ .erasing := by
  cases x <;> simp [SegmentCondition.scanned]

theorem Bank.Sound.scanned {k : Bank} (h : k.Sound) : k.scanned.Sound := by
  obtain ⟨⟨hrise, hblank⟩, hentries, hheader⟩ := h
  refine ⟨⟨List.pairwise_map.2 hrise, fun p hp => ?_⟩, fun n e he => hentries n e (Bank.slot_eq_scanned he),
    fun x hx => hheader x (Bank.header_eq_scanned hx)⟩
  obtain ⟨q, hq, rfl⟩ := List.mem_map.1 hp
  exact Element.scanned_ne_blank (hblank q hq)

/-! ### What an operation in flight marks -/

theorem StoreOp.target_of_writes {op : StoreOp} {b : BankId} {n : SlotNo} (h : op.writes b n = true) :
    op.target = some b := by
  cases op <;> simp_all [StoreOp.writes, StoreOp.target]

theorem StoreOp.target_of_writesHeader {op : StoreOp} {b : BankId} (h : op.writesHeader b = true) :
    op.target = some b := by
  cases op <;> simp_all [StoreOp.writesHeader, StoreOp.target]

theorem StoreOp.target_of_erases {op : StoreOp} {b : BankId} {n : SegmentNo} (h : op.erases b n = true) :
    op.target = some b := by
  cases op with
  | eraseBank b' o stage => cases stage <;> simp_all [StoreOp.erases, StoreOp.target]
  | _ => simp_all [StoreOp.erases, StoreOp.target]

/-- The segment that an operation is erasing, said both ways. -/
theorem StoreOp.erasing_some {op : StoreOp} {b : BankId} {n : SegmentNo} :
    op.erasing = some (b, some n) ↔ op.erases b n = true := by
  cases op with
  | eraseBank b' o stage => cases stage <;> simp [StoreOp.erasing, StoreOp.erases]
  | _ => simp [StoreOp.erasing, StoreOp.erases]

/-- The header that an operation is erasing is that of an ERASE BANK in its first stage (R137). -/
theorem StoreOp.erasing_none {op : StoreOp} {b : BankId} :
    op.erasing = some (b, none) ↔ ∃ o, op = .eraseBank b o .header := by
  cases op with
  | eraseBank b' o stage => cases stage <;> simp [StoreOp.erasing]
  | _ => simp [StoreOp.erasing]

/-- An operation that marks no element: no write and no segment erase is in flight (R25, R26). -/
structure StoreOp.Unmarked (op : StoreOp) : Prop where
  slots : ∀ b n, op.writes b n = false
  headers : ∀ b, op.writesHeader b = false
  segments : ∀ b n, op.erases b n = false

/-! ### The store at rest -/

/-- The laws of the store between two stages: sound memory and staging buffer, the table in service as it
must be, and no element marked. -/
structure State.AtRest (s : State) : Prop where
  banks : s.BankLaw
  staging : s.StagingLaw
  service : s.ServiceLaw
  slots : ∀ b n, (s.nv.bank b).slot n ≠ .programming
  headers : ∀ b, (s.nv.bank b).header ≠ .programming
  segments : ∀ b n, (s.nv.bank b).segments.get n ≠ .erasing

/-- What the laws at rest say of the memory alone. -/
theorem State.AtRest.of_nv {s t : State} (h : s.AtRest) (hnv : t.nv = s.nv) (hstaging : t.StagingLaw)
    (hservice : t.ServiceLaw) : t.AtRest := by
  obtain ⟨hbanks, -, -, hslots, hheaders, hsegments⟩ := h
  refine ⟨?_, hstaging, hservice, ?_, ?_, ?_⟩
  · simpa only [State.BankLaw, hnv] using hbanks
  · simpa only [hnv] using hslots
  · simpa only [hnv] using hheaders
  · simpa only [hnv] using hsegments

/-- What the laws at rest depend on. -/
theorem State.AtRest.of_same {s t : State} (h : s.AtRest) (hnv : t.nv = s.nv) (hmode : t.ts.mode = s.ts.mode)
    (hstaging : t.StagingLaw) : t.AtRest :=
  h.of_nv hnv hstaging (by simpa only [State.ServiceLaw, hnv, hmode] using h.service)

/-- With no operation in flight the laws at rest are the laws. -/
theorem State.AtRest.storeInv {s : State} (h : s.AtRest) (hr : s.ResetLaw) (ho : s.ts.op = none) :
    s.StoreInv := by
  refine ⟨hr, h.banks, h.staging, h.service, ?_, ?_, fun _ _ => ⟨?_, ?_, ?_⟩,
    ⟨?_, fun b k _ => h.slots b k⟩, ?_⟩
  · intro op hop; rw [ho] at hop; cases hop
  · intro b w stage hop; rw [ho] at hop; cases hop
  · intro b n; simp [ho, h.slots b n]
  · intro b; simp [ho, h.headers b]
  · intro b n; simp [ho, h.segments b n]
  · intro op hop; rw [ho] at hop; cases hop
  · intro op hop; rw [ho] at hop; cases hop

/-- With no mark in flight the laws are laws at rest, out of reset and past the scan. -/
theorem State.StoreInv.atRest {s : State} (h : s.StoreInv) (hout : s.outOfReset = true)
    (hscan : s.ts.startUp ≠ .scanning) (ho : ∀ op, s.ts.op = some op → op.Unmarked) : s.AtRest := by
  obtain ⟨hslots, hheaders, hsegments⟩ := h.marks hout hscan
  refine ⟨h.banks, h.staging, h.service, fun b n hp => ?_, fun b hp => ?_, fun b n hp => ?_⟩
  · obtain ⟨op, hop, hw⟩ := (hslots b n).1 hp
    rw [(ho op hop).slots b n] at hw; cases hw
  · obtain ⟨op, hop, hw⟩ := (hheaders b).1 hp
    rw [(ho op hop).headers b] at hw; cases hw
  · obtain ⟨op, hop, hw⟩ := (hsegments b n).1 hp
    rw [(ho op hop).segments b n] at hw; cases hw

/-- A change of the bank that is not active keeps the table in service (R123). -/
theorem State.ServiceLaw.mapBank {s : State} (h : s.ServiceLaw) {b : BankId} {f : Bank → Bank}
    (hb : b = s.ts.mode.standby) : (s.mapBank b f).ServiceLaw := by
  intro v hv
  obtain ⟨hheader, hcell⟩ := h v hv
  have hne : b ≠ v.active := by
    rw [hb, show s.ts.mode = .running v from hv]; exact otherBank_ne v.active
  simp only [State.mapBank_nv, Nonvolatile.bank_mapBank, if_neg hne, Nonvolatile.cell_mapBank]
  exact ⟨hheader, hcell⟩

/-- Both banks are sound after a change of one that leaves it sound. -/
theorem State.BankLaw.mapBank {s : State} (h : s.BankLaw) {b : BankId} {f : Bank → Bank}
    (hf : (f (s.nv.bank b)).Sound) : (s.mapBank b f).BankLaw := by
  intro c
  rw [State.mapBank_nv, Nonvolatile.bank_mapBank]
  split
  · exact hf
  · exact h c

/-- The stage in flight ends by a change of its bank that leaves it sound and unmarked: the store is at
rest, since the other bank carries no mark. -/
theorem State.StoreInv.stageEnds {s : State} (h : s.StoreInv) {op : StoreOp} (ho : s.ts.op = some op)
    {b : BankId} (hb : op.target = some b) {f : Bank → Bank} (hf : (f (s.nv.bank b)).Sound)
    (hslots : ∀ n, (f (s.nv.bank b)).slot n ≠ .programming)
    (hheader : (f (s.nv.bank b)).header ≠ .programming)
    (hsegments : ∀ n, (f (s.nv.bank b)).segments.get n ≠ .erasing) : (s.mapBank b f).AtRest := by
  have hl := h.live_of_op ho
  obtain ⟨mslots, mheaders, msegments⟩ := h.marks hl.outOfReset (by rw [hl.idle]; simp)
  obtain ⟨-, -, -, htarget⟩ := h.operation op ho
  have other : ∀ c, op.target = some c → b = c := fun c hc => by rw [hb] at hc; exact Option.some.inj hc
  refine ⟨h.banks.mapBank hf, h.staging, h.service.mapBank (htarget b hb), fun c n => ?_, fun c => ?_,
    fun c n => ?_⟩ <;> rw [State.mapBank_nv, Nonvolatile.bank_mapBank] <;> split
  · exact hslots n
  · rename_i hc
    intro hp
    obtain ⟨op', hop, hw⟩ := (mslots c n).1 hp
    obtain rfl : op' = op := by rw [ho] at hop; exact (Option.some.inj hop).symm
    exact hc (other c (StoreOp.target_of_writes hw))
  · exact hheader
  · rename_i hc
    intro hp
    obtain ⟨op', hop, hw⟩ := (mheaders c).1 hp
    obtain rfl : op' = op := by rw [ho] at hop; exact (Option.some.inj hop).symm
    exact hc (other c (StoreOp.target_of_writesHeader hw))
  · exact hsegments n
  · rename_i hc
    intro hp
    obtain ⟨op', hop, hw⟩ := (msegments c n).1 hp
    obtain rfl : op' = op := by rw [ho] at hop; exact (Option.some.inj hop).symm
    exact hc (other c (StoreOp.target_of_erases hw))

end Sys2Proof.Machine
end

section
/-! PROOFS. The two halves of every event of the store: the stage in flight ends (`StageEnd`), and the next
operation or stage begins or the store rests (`GoesOn`). -/

namespace Sys2Proof.Machine

/-! ### The marks of the operation in flight -/

/-- With an operation in flight a slot is PROGRAMMING exactly if it is being written (R25). -/
theorem State.StoreInv.slot_programming_iff {s : State} (h : s.StoreInv) {op : StoreOp}
    (ho : s.ts.op = some op) (b : BankId) (n : SlotNo) :
    (s.nv.bank b).slot n = .programming ↔ op.writes b n = true := by
  have hl := h.live_of_op ho
  simpa [ho] using (h.marks hl.outOfReset (by simp [hl.idle])).1 b n

theorem State.StoreInv.header_programming_iff {s : State} (h : s.StoreInv) {op : StoreOp}
    (ho : s.ts.op = some op) (b : BankId) :
    (s.nv.bank b).header = .programming ↔ op.writesHeader b = true := by
  have hl := h.live_of_op ho
  simpa [ho] using (h.marks hl.outOfReset (by simp [hl.idle])).2.1 b

/-- With an operation in flight a segment is ERASING exactly if it is being erased (R26). -/
theorem State.StoreInv.segment_erasing_iff {s : State} (h : s.StoreInv) {op : StoreOp}
    (ho : s.ts.op = some op) (b : BankId) (n : SegmentNo) :
    (s.nv.bank b).segments.get n = .erasing ↔ op.erases b n = true := by
  have hl := h.live_of_op ho
  simpa [ho] using (h.marks hl.outOfReset (by simp [hl.idle])).2.2 b n

/-- The operations that write a slot (R131, R140). -/
theorem StoreOp.writes_iff {op : StoreOp} {b : BankId} {n : SlotNo} :
    op.writes b n = true ↔ (∃ e, op = .programStage b n e) ∨ ∃ g e, op = .copySegment b g n e := by
  cases op <;> simp [StoreOp.writes]

/-- The operations that erase a segment (R135, R137). -/
theorem StoreOp.erases_iff {op : StoreOp} {b : BankId} {n : SegmentNo} :
    op.erases b n = true ↔ ∃ o, op = .eraseSegment b n o ∨ op = .eraseBank b o (.segment n) := by
  cases op with
  | eraseBank b' o stage => cases stage <;> simp [StoreOp.erases]
  | _ => simp [StoreOp.erases]

/-- An operation that writes a slot marks that slot and nothing else. -/
theorem StoreOp.marks_of_writes {op : StoreOp} {b : BankId} {n : SlotNo} (h : op.writes b n = true) :
    (∀ c m, op.writes c m = true ↔ b = c ∧ n = m) ∧ (∀ c, op.writesHeader c = false)
      ∧ ∀ c m, op.erases c m = false := by
  rcases StoreOp.writes_iff.1 h with ⟨e, rfl⟩ | ⟨g, e, rfl⟩ <;>
    simp [StoreOp.writes, StoreOp.writesHeader, StoreOp.erases]

/-- An operation that erases a segment marks that segment and nothing else. -/
theorem StoreOp.marks_of_erases {op : StoreOp} {b : BankId} {n : SegmentNo} (h : op.erases b n = true) :
    (∀ c m, op.writes c m = false) ∧ (∀ c, op.writesHeader c = false)
      ∧ ∀ c m, op.erases c m = true ↔ b = c ∧ n = m := by
  obtain ⟨o, rfl | rfl⟩ := StoreOp.erases_iff.1 h <;>
    simp [StoreOp.writes, StoreOp.writesHeader, StoreOp.erases]

/-- A write that spares the locks is made into an unlocked segment (R143). -/
theorem StoreOp.SparesLocks.unlocked_of_writes {s : State} {m : Mode} {op : StoreOp} {b : BankId} {n : SlotNo}
    (h : op.SparesLocks s) (hs : op.Sound m) (hw : op.writes b n = true) :
    s.locked b (segmentOf n) = false := by
  rcases StoreOp.writes_iff.1 hw with ⟨e, rfl⟩ | ⟨g, e, rfl⟩
  · exact h.1
  · rw [hs.2]; exact h

/-- An erase of a locked segment is an erase with override (R143). -/
theorem StoreOp.SparesLocks.override_of_erases {s : State} {op : StoreOp} {b : BankId} {n : SegmentNo}
    (h : op.SparesLocks s) (he : op.erases b n = true) (hl : s.locked b n = true) :
    op = .eraseSegment b n true ∨ op = .eraseBank b true (.segment n) := by
  obtain ⟨o, rfl | rfl⟩ := StoreOp.erases_iff.1 he
  · obtain rfl : o = true := by simpa [StoreOp.SparesLocks, hl] using h
    exact .inl rfl
  · obtain rfl : o = true := by simpa [StoreOp.SparesLocks, hl] using h
    exact .inr rfl

/-! ### The stage in flight ends -/

/-- How the memory stands as the stage in flight ends: a write has left its element VALID or TORN, an erase
its segment or header BLANK, and any other stage nothing. -/
inductive State.StageEnd (s : State) : State → Prop
  | still (h : ∀ op, s.ts.op = some op → op.Unmarked) : s.StageEnd s
  | slot {op : StoreOp} {b : BankId} {n : SlotNo} {x : Slot} (ho : s.ts.op = some op)
      (hw : op.writes b n = true) (hx : x.Written Entry.legal) :
      s.StageEnd (s.mapBank b fun k => k.setSlot n x)
  | header {b : BankId} {h : Header} {x : Element Header} (ho : s.ts.op = some (.programHeader b h))
      (hx : x.Written Header.legal) : s.StageEnd (s.mapBank b fun k => k.setHeader x)
  | segment {op : StoreOp} {b : BankId} {n : SegmentNo} (override : Bool) (ho : s.ts.op = some op)
      (he : op.erases b n = true) : s.StageEnd (s.mapBank b fun k => k.segmentErased n override)
  | headerErased {b : BankId} {override : Bool} (ho : s.ts.op = some (.eraseBank b override .header)) :
      s.StageEnd (s.mapBank b fun k => k.setHeader .blank)

/-- The end of a stage changes the memory alone. -/
theorem State.StageEnd.frame {s u : State} (h : s.StageEnd u) : u.ts = s.ts ∧ s.SameStage u := by
  cases h <;> exact ⟨rfl, rfl, rfl, rfl⟩

theorem Element.Written.legal_of_valid {α : Type} {legal : α → Bool} {x : Element α} (h : x.Written legal)
    {y : α} (hy : x = .valid y) : legal y = true := by
  subst hy; exact h

theorem Element.Written.ne_programming {α : Type} {legal : α → Bool} {x : Element α} (h : x.Written legal) :
    x ≠ .programming := by
  rintro rfl; exact h

/-- As a stage ends no element carries a mark. -/
theorem State.StageEnd.atRest {s u : State} (h : s.StageEnd u) (hs : s.StoreInv) (hl : s.Live) : u.AtRest := by
  cases h with
  | still h => exact hs.atRest hl.outOfReset (by simp [hl.idle]) h
  | @slot op b n x ho hw hx =>
    obtain ⟨hslots, hheaders, hsegments⟩ := StoreOp.marks_of_writes hw
    refine hs.stageEnds ho (StoreOp.target_of_writes hw)
      ((hs.banks b).setSlot n fun e he => hx.legal_of_valid he) (fun j => ?_) (fun hp => ?_) (fun j hp => ?_)
    · rw [Bank.slot_setSlot]
      split
      · exact hx.ne_programming
      · rename_i hj
        rw [Ne, hs.slot_programming_iff ho, hslots]
        exact fun hc => hj hc.2
    · have := (hs.header_programming_iff ho b).1 hp
      rw [hheaders] at this; cases this
    · have := (hs.segment_erasing_iff ho b j).1 hp
      rw [hsegments] at this; cases this
  | @header b h x ho hx =>
    refine hs.stageEnds ho rfl ((hs.banks b).setHeader fun y hy => hx.legal_of_valid hy) (fun j hp => ?_)
      hx.ne_programming (fun j hp => ?_)
    · have := (hs.slot_programming_iff ho b j).1 hp
      cases this
    · have := (hs.segment_erasing_iff ho b j).1 hp
      cases this
  | @segment op b n override ho he =>
    obtain ⟨hslots, hheaders, hsegments⟩ := StoreOp.marks_of_erases he
    refine hs.stageEnds ho (StoreOp.target_of_erases he) ((hs.banks b).segmentErased n override)
      (fun j => ?_) (fun hp => ?_) (fun j => ?_)
    · rw [Bank.slot_segmentErased]
      split
      · simp
      · rw [Ne, hs.slot_programming_iff ho, hslots]; simp
    · have := (hs.header_programming_iff ho b).1 hp
      rw [hheaders] at this; cases this
    · rw [Bank.segment_segmentErased]
      split
      · simp
      · rename_i hj
        rw [Ne, hs.segment_erasing_iff ho, hsegments]
        exact fun hc => hj hc.2
  | @headerErased b override ho =>
    refine hs.stageEnds ho rfl ((hs.banks b).setHeader (by simp)) (fun j hp => ?_) (by simp) (fun j hp => ?_)
    · have := (hs.slot_programming_iff ho b j).1 hp
      cases this
    · have := (hs.segment_erasing_iff ho b j).1 hp
      cases this

/-! ### The next operation or stage begins, or the store rests -/

/-- A write of a slot may follow: no operation is in flight but one that writes slots (R131, R140). -/
def State.WriteMayFollow (s : State) : Prop := ∀ p, s.ts.op = some p → ∃ c m, p.writes c m = true

theorem State.writeMayFollow_of_none {s : State} (h : s.ts.op = none) : s.WriteMayFollow :=
  fun p hp => by rw [h] at hp; cases hp

theorem State.writeMayFollow_of_writes {s : State} {op : StoreOp} {b : BankId} {n : SlotNo}
    (h : s.ts.op = some op) (hw : op.writes b n = true) : s.WriteMayFollow :=
  fun p hp => by rw [h] at hp; cases hp; exact ⟨b, n, hw⟩

/-- After a write no operation is in flight that makes another mark. -/
theorem State.WriteMayFollow.unmarked {s : State} (h : s.WriteMayFollow) {op : StoreOp}
    (ho : s.ts.op = some op) :
    (∀ b, op.writesHeader b = false) ∧ ∀ b n, op.erases b n = false := by
  obtain ⟨c, m, hw⟩ := h op ho
  exact (StoreOp.marks_of_writes hw).2

/-- What an operation or its next stage makes of the memory of `s` as it begins, and what it has to rely on
(R125, R126, R131 to R144, R155 to R157). A write follows on a write, or is the first of its operation. -/
inductive StoreOp.Begins (s : State) : StoreOp → Nonvolatile → Prop
  | write {op : StoreOp} {b : BankId} {n : SlotNo} (hw : op.writes b n = true)
      (hblank : (s.nv.bank b).slot n = .blank) (hspares : op.SparesLocks s) (hahead : op.BlankAhead s)
      (hfollows : s.WriteMayFollow) :
      op.Begins s (s.nv.mapBank (fun k => k.setSlot n .programming) b)
  | header (b : BankId) (h : Header) :
      (StoreOp.programHeader b h).Begins s (s.nv.mapBank (fun k => k.setHeader .programming) b)
  | erase {op : StoreOp} {b : BankId} {n : SegmentNo} (he : op.erases b n = true)
      (hspares : op.SparesLocks s) : op.Begins s (s.nv.mapBank (fun k => k.setCondition n .erasing) b)
  | lock (b : BankId) (n : SegmentNo) :
      (StoreOp.lockSegment b n).Begins s (s.nv.mapBank (fun k => k.setLock n true) b)
  | eraseHeader (b : BankId) (override : Bool) : (StoreOp.eraseBank b override .header).Begins s s.nv
  | check (b : BankId) : (StoreOp.checkBank b).Begins s s.nv
  | commit {b : BankId} (w : Word) (stage : CommitStage) (hready : (s.nv.bank b).ready = true) :
      (StoreOp.commit b w stage).Begins s s.nv
  | commitCell {b : BankId} (w : Word) (stage : CommitStage) (x : PointerCell)
      (hready : (s.nv.bank b).ready = true) :
      (StoreOp.commit b w stage).Begins s (s.nv.setCell x s.ts.mode.targetCell)

/-- What follows on the end of a stage, or on a command accepted with none in flight: the store rests, or an
operation or its next stage begins. -/
inductive State.GoesOn (u t : State) : Prop
  | rests (same : u.SameStage t) (hnv : t.nv = u.nv) (hop : t.ts.op = none)
      (hstaging : u.StagingLaw → t.StagingLaw)
  | begins {op : StoreOp} (same : u.SameStage t) (hbegins : op.Begins u t.nv)
      (htarget : ∀ b ∈ op.target, b = u.ts.mode.standby) (hsound : op.Sound u.ts.mode)
      (hop : t.ts.op = some op) (hstaging : t.ts.staging = u.ts.staging) (hlatch : t.ts.faultLatch = false)

/-- The laws with an operation in flight, gathered from what they say of it. -/
theorem State.StoreInv.of_op {t : State} {op : StoreOp} (hl : t.Live) (hop : t.ts.op = some op)
    (hlatch : t.ts.faultLatch = false) (hbanks : t.BankLaw) (hstaging : t.StagingLaw)
    (hservice : t.ServiceLaw) (hsound : op.Sound t.ts.mode) (htarget : ∀ b ∈ op.target, b = t.ts.mode.standby)
    (hcommit : ∀ b w stage, op = .commit b w stage → (t.nv.bank b).ready = true)
    (hslots : ∀ b n, (t.nv.bank b).slot n = .programming ↔ op.writes b n = true)
    (hheaders : ∀ b, (t.nv.bank b).header = .programming ↔ op.writesHeader b = true)
    (hsegments : ∀ b n, (t.nv.bank b).segments.get n = .erasing ↔ op.erases b n = true)
    (hspares : op.SparesLocks t) (hahead : op.BlankAhead t) : t.StoreInv := by
  refine ⟨hl.resetLaw, hbanks, hstaging, hservice, ?_, ?_, fun _ _ => ⟨?_, ?_, ?_⟩, ⟨?_, ?_⟩, ?_⟩
  · intro op' h
    rw [hop] at h; cases h
    exact ⟨hlatch, hl.started, hsound, htarget⟩
  · intro b w stage h
    rw [hop] at h
    exact hcommit b w stage (Option.some.inj h)
  · intro b n; simp [hop, hslots]
  · intro b; simp [hop, hheaders]
  · intro b n; simp [hop, hsegments]
  · intro op' h
    rw [hop] at h; cases h
    exact hspares
  · intro b k hlocked hp
    rw [hspares.unlocked_of_writes hsound ((hslots b k).1 hp)] at hlocked
    cases hlocked
  · intro op' h
    rw [hop] at h; cases h
    exact hahead

theorem Mode.targetCell_ne {m : Mode} {v : Service} (h : m = .running v) : m.targetCell ≠ v.cell := by
  subst h; exact CellId.other_ne v.cell

/-- What an operation marks as it begins. -/
theorem StoreOp.Begins.marks {s : State} {op : StoreOp} {v : Nonvolatile} (h : op.Begins s v) (hs : s.AtRest) :
    (∀ b n, (v.bank b).slot n = .programming ↔ op.writes b n = true)
      ∧ (∀ b, (v.bank b).header = .programming ↔ op.writesHeader b = true)
      ∧ ∀ b n, (v.bank b).segments.get n = .erasing ↔ op.erases b n = true := by
  have hslots := hs.slots
  have hheaders := hs.headers
  have hsegments := hs.segments
  cases h with
  | @write _ b n hw hblank hspares hahead _ =>
    obtain ⟨mslots, mheaders, msegments⟩ := StoreOp.marks_of_writes hw
    refine ⟨fun c m => ?_, fun c => ?_, fun c m => ?_⟩ <;> rw [Nonvolatile.bank_mapBank]
    · rw [mslots]
      by_cases hc : b = c
      · subst hc
        by_cases hm : n = m
        · subst hm; simp [Bank.slot_setSlot]
        · simp [Bank.slot_setSlot, hm, hslots]
      · simp [hc, hslots]
    · by_cases hc : b = c <;> simp [hc, mheaders, hheaders]
    · by_cases hc : b = c <;> simp [hc, msegments, hsegments]
  | header b h =>
    refine ⟨fun c m => ?_, fun c => ?_, fun c m => ?_⟩ <;> rw [Nonvolatile.bank_mapBank]
    · by_cases hc : b = c <;> simp [hc, StoreOp.writes, hslots]
    · by_cases hc : b = c <;> simp [hc, StoreOp.writesHeader, hheaders]
    · by_cases hc : b = c <;> simp [hc, StoreOp.erases, hsegments]
  | @erase _ b n he hspares =>
    obtain ⟨mslots, mheaders, msegments⟩ := StoreOp.marks_of_erases he
    refine ⟨fun c m => ?_, fun c => ?_, fun c m => ?_⟩ <;> rw [Nonvolatile.bank_mapBank]
    · by_cases hc : b = c <;> simp [hc, mslots, hslots]
    · by_cases hc : b = c <;> simp [hc, mheaders, hheaders]
    · rw [msegments]
      by_cases hc : b = c
      · subst hc
        by_cases hm : n = m
        · subst hm; simp [Bank.segment_setCondition]
        · simp [Bank.segment_setCondition, hm, hsegments]
      · simp [hc, hsegments]
  | lock b n =>
    refine ⟨fun c m => ?_, fun c => ?_, fun c m => ?_⟩ <;> rw [Nonvolatile.bank_mapBank]
    · by_cases hc : b = c <;> simp [hc, StoreOp.writes, hslots]
    · by_cases hc : b = c <;> simp [hc, StoreOp.writesHeader, hheaders]
    · by_cases hc : b = c <;> simp [hc, StoreOp.erases, hsegments]
  | eraseHeader b o => simp [StoreOp.writes, StoreOp.writesHeader, StoreOp.erases, hslots, hheaders, hsegments]
  | check b => simp [StoreOp.writes, StoreOp.writesHeader, StoreOp.erases, hslots, hheaders, hsegments]
  | commit w stage hready =>
    simp [StoreOp.writes, StoreOp.writesHeader, StoreOp.erases, hslots, hheaders, hsegments]
  | commitCell w stage x hready =>
    simp [StoreOp.writes, StoreOp.writesHeader, StoreOp.erases, hslots, hheaders, hsegments]

/-- The banks stay sound as an operation begins. -/
theorem StoreOp.Begins.banks {s : State} {op : StoreOp} {v : Nonvolatile} (h : op.Begins s v) (hs : s.BankLaw)
    (c : BankId) : (v.bank c).Sound := by
  cases h with
  | @write _ b n hw hblank hspares hahead _ => exact hs.mapBank ((hs b).setSlot n (by simp)) c
  | header b h => exact hs.mapBank ((hs b).setHeader (by simp)) c
  | @erase _ b n he hspares => exact hs.mapBank ((hs b).setCondition n _) c
  | lock b n => exact hs.mapBank ((hs b).setLock n _) c
  | commitCell w stage x hready => rw [Nonvolatile.bank_setCell]; exact hs c
  | _ => exact hs c

/-- What the locks are as an operation begins: as they were, but that LOCK SEGMENT sets one (R142). -/
theorem StoreOp.Begins.locks {s : State} {op : StoreOp} {v : Nonvolatile} (h : op.Begins s v)
    (hop : ∀ b n, op ≠ .lockSegment b n) (c : BankId) : (v.bank c).locks = (s.nv.bank c).locks := by
  cases h with
  | lock b n => exact absurd rfl (hop b n)
  | commitCell w stage x hready => rw [Nonvolatile.bank_setCell]
  | eraseHeader | check | commit => rfl
  | _ =>
    rw [Nonvolatile.bank_mapBank]
    split
    · subst_vars; rfl
    · rfl

/-- An operation spares the locks as they are once it has begun. -/
theorem StoreOp.Begins.sparesAfter {u t : State} {op : StoreOp} (h : op.Begins u t.nv)
    (hstaging : t.ts.staging = u.ts.staging) : op.SparesLocks t := by
  have hspares : op.SparesLocks u := by
    generalize t.nv = v at h
    cases h with
    | write _ _ hspares _ _ => exact hspares
    | erase _ hspares => exact hspares
    | _ => trivial
  by_cases hop : ∃ b n, op = .lockSegment b n
  · obtain ⟨b, n, rfl⟩ := hop
    trivial
  · refine (op.sparesLocks_congr ?_ hstaging).2 hspares
    funext c m
    simp only [State.locked, h.locks (fun b n e => hop ⟨b, n, e⟩) c]

/-- The slots that the operation has yet to write are BLANK once it has begun. -/
theorem StoreOp.Begins.aheadAfter {u t : State} {op : StoreOp} (h : op.Begins u t.nv)
    (hstaging : t.ts.staging = u.ts.staging) : op.BlankAhead t := by
  have later : ∀ b n k, t.nv = u.nv.mapBank (fun k => k.setSlot n .programming) b → n < k →
      (t.nv.bank b).slot k = (u.nv.bank b).slot k := by
    intro b n k hv hk
    rw [hv, Nonvolatile.bank_mapBank, if_pos rfl, Bank.slot_setSlot, if_neg (ne_of_lt hk)]
  generalize hv : t.nv = v at h
  cases h with
  | @write _ b n hw hblank hspares hahead _ =>
    rcases StoreOp.writes_iff.1 hw with ⟨e, rfl⟩ | ⟨g, e, rfl⟩
    · intro k x hx hlt
      rw [later b n x.1 hv hlt]
      exact hahead k x (hstaging ▸ hx) hlt
    · intro k hk hlt
      rw [later b n k hv hlt]
      exact hahead k hk hlt
  | @erase _ b n he hspares =>
    obtain ⟨o, rfl | rfl⟩ := StoreOp.erases_iff.1 he <;> trivial
  | _ => trivial

/-- The table in service stays as an operation begins on the standby bank (R123). -/
theorem StoreOp.Begins.service {s : State} {op : StoreOp} {v : Nonvolatile} (h : op.Begins s v)
    (hs : s.ServiceLaw) (htarget : ∀ b ∈ op.target, b = s.ts.mode.standby) (w : Service)
    (hw : s.ts.mode = .running w) :
    (v.bank w.active).header = .valid w.header
      ∧ ∃ x, v.cell w.cell = .valid { bank := w.active, generation := w.generation, check := x } := by
  cases h with
  | write hw' => exact hs.mapBank (htarget _ (StoreOp.target_of_writes hw')) w hw
  | header b h => exact hs.mapBank (htarget _ rfl) w hw
  | erase he => exact hs.mapBank (htarget _ (StoreOp.target_of_erases he)) w hw
  | lock b n =>
    obtain ⟨hheader, hcell⟩ := hs w hw
    rw [Nonvolatile.bank_mapBank, Nonvolatile.cell_mapBank]
    refine ⟨?_, hcell⟩
    split
    · subst_vars; exact hheader
    · exact hheader
  | commitCell x stage y hready =>
    rw [Nonvolatile.bank_setCell, Nonvolatile.cell_setCell, if_neg (Mode.targetCell_ne hw)]
    exact hs w hw
  | _ => exact hs w hw

/-- An operation that begins at rest on the standby bank, the latch clear, keeps the laws of the store. -/
theorem StoreOp.Begins.storeInv {u t : State} {op : StoreOp} (h : op.Begins u t.nv) (hu : u.AtRest)
    (hl : u.Live) (same : u.SameStage t) (htarget : ∀ b ∈ op.target, b = u.ts.mode.standby)
    (hsound : op.Sound u.ts.mode) (hop : t.ts.op = some op) (hstaging : t.ts.staging = u.ts.staging)
    (hlatch : t.ts.faultLatch = false) : t.StoreInv := by
  obtain ⟨mslots, mheaders, msegments⟩ := h.marks hu
  refine State.StoreInv.of_op (same.live hl) hop hlatch (h.banks hu.banks)
    (by simpa only [State.StagingLaw, hstaging] using hu.staging) ?_ (same.mode ▸ hsound)
    (fun b hb => same.mode ▸ htarget b hb) ?_ mslots mheaders msegments
    (h.sparesAfter hstaging) (h.aheadAfter hstaging)
  · intro w hw
    exact h.service hu.service htarget w (same.mode ▸ hw)
  · intro b w stage hc
    subst hc
    generalize t.nv = v at h
    cases h with
    | write hw => cases hw
    | erase he => cases he
    | commit _ _ hready => exact hready
    | commitCell _ _ x hready => rw [Nonvolatile.bank_setCell]; exact hready

end Sys2Proof.Machine
end

section
/-! PROOFS. The images of entries and headers: which images are taken, what is read from each position, and
that images and fields determine each other (R29 to R36). -/

namespace Sys2Proof.Machine

/-! ### The characters of an image -/

/-- Below its length a list begins, from each position on, with the character at that position. -/
theorem drop_eq_getD_cons {image : List Byte} {i : Nat} (h : i < image.length) :
    image.drop i = image.getD i 0 :: image.drop (i + 1) := by
  rw [List.drop_eq_getElem_cons h, List.getD_eq_getElem?_getD, List.getElem?_eq_getElem h, Option.getD_some]

theorem byte_eq_iff_toNat {b : Byte} {n : Nat} (hn : n < 256) : b = BitVec.ofNat 8 n ↔ b.toNat = n := by
  rw [← BitVec.toNat_inj, BitVec.toNat_ofNat, Nat.mod_eq_of_lt hn]

theorem byte_eq_zero_iff {b : Byte} : b = 0 ↔ b.toNat = 0 := byte_eq_iff_toNat (n := 0) (by decide)

theorem zeroFrom_iff (image : List Byte) (i j : Nat) :
    zeroFrom image i j = true ↔ ∀ k, i ≤ k → k < j → (image.getD k 0).toNat = 0 := by
  simp only [zeroFrom, List.all_eq_true, beq_iff_eq, ← byte_eq_zero_iff]
  constructor
  · intro h k hi hj
    rw [List.getD_eq_getElem?_getD]
    by_cases hk : k < image.length
    · rw [List.getElem?_eq_getElem hk, Option.getD_some]
      refine h _ (List.mem_iff_getElem?.2 ⟨k - i, ?_⟩)
      rw [List.getElem?_drop, List.getElem?_take_of_lt (by omega), Nat.add_sub_cancel' hi,
        List.getElem?_eq_getElem hk]
    · rw [List.getElem?_eq_none (Nat.not_lt.1 hk)]; rfl
  · intro h b hb
    obtain ⟨k, hk⟩ := List.mem_iff_getElem?.1 hb
    rw [List.getElem?_drop, List.getElem?_take] at hk
    split at hk
    · rename_i hlt
      have := h (i + k) (by omega) hlt
      rwa [List.getD_eq_getElem?_getD, hk] at this
    · cases hk

/-- A run of 00h in an image (R29). -/
theorem drop_of_zeroFrom {image : List Byte} {i j : Nat} (h : zeroFrom image i j = true) (hij : i ≤ j)
    (hj : j ≤ image.length) : image.drop i = List.replicate (j - i) 0 ++ image.drop j := by
  have hrun : (image.take j).drop i = List.replicate (j - i) 0 := by
    simp only [zeroFrom, List.all_eq_true, beq_iff_eq] at h
    exact List.eq_replicate_iff.2 ⟨by simp [Nat.min_eq_left hj], h⟩
  rw [← hrun, ← List.drop_append_of_le_length (by simp [hij, le_trans hij hj]), List.take_append_drop]

theorem zeroFrom_of_drop {image : List Byte} {i n : Nat} (h : image.drop i = List.replicate n 0) :
    zeroFrom image i image.length = true := by
  simp [zeroFrom, h]

/-! ### The ranges of the fields -/

theorem keyAddrLegal_iff (k : Byte) : keyAddrLegal k = true ↔ k.toNat ≤ 0xEF ∨ k.toNat = 0xFF := by
  simp [keyAddrLegal, BitVec.le_def, ← BitVec.toNat_inj]

theorem functionLegal_iff (k : Byte) : functionLegal k = true ↔ k.toNat ≤ 0x3F ∨ k.toNat = 0xFF := by
  simp [functionLegal, BitVec.le_def, ← BitVec.toNat_inj]

theorem outAddrLegal_iff (k : Byte) :
    outAddrLegal k = true ↔ (1 ≤ k.toNat ∧ k.toNat ≤ 0xEF) ∨ k.toNat = 0xFF := by
  simp [outAddrLegal, BitVec.le_def, ← BitVec.toNat_inj]

theorem broadcastLegal_iff (key : Byte) (p : ForwardParams) :
    broadcastLegal key p = true ↔ (key.toNat = 0 →
      p.outAddr.toNat = 0xFF ∧ p.retryLimit.toNat = 0 ∧ p.timeout.toNat = 0 ∧ p.strip.toNat = 0) := by
  simp [broadcastLegal, ← BitVec.toNat_inj, and_assoc, imp_iff_not_or]

/-! ### Which images are taken -/

/-- The FORWARD parameters at positions 3 to 12 of an image (R31). -/
def ForwardParams.ofImage (image : List Byte) : ForwardParams where
  outAddr := image.getD 3 0
  outFn := image.getD 4 0
  retryLimit := image.getD 5 0
  timeout := image.getD 6 0
  strip := image.getD 7 0
  front := (image.drop 9).take (image.getD 8 0).toNat

/-- What is read as an action, by the code at position 2 (R29, R31 to R35). -/
theorem Action.ofImage_eq_some {image : List Byte} {a : Action} :
    Action.ofImage image = some a ↔
      (image.getD 2 0 = 0x00#8 ∧ a = .forward (.ofImage image)
          ∧ outAddrLegal (image.getD 3 0) = true ∧ functionLegal (image.getD 4 0) = true
          ∧ (image.getD 5 0).toNat ≤ 3 ∧ (image.getD 7 0).toNat ≤ 4 ∧ (image.getD 8 0).toNat ≤ 4
          ∧ zeroFrom image (9 + (image.getD 8 0).toNat) 20 = true
          ∧ broadcastLegal (image.getD 0 0) (.ofImage image) = true)
        ∨ (image.getD 2 0 = 0x01#8 ∧ a = .answer ((image.drop 14).take (image.getD 13 0).toNat)
          ∧ image.getD 0 0 ≠ 0 ∧ zeroFrom image 3 13 = true ∧ (image.getD 13 0).toNat ≤ 6
          ∧ zeroFrom image (14 + (image.getD 13 0).toNat) 20 = true)
        ∨ (image.getD 2 0 = 0x02#8 ∧ a = .reject (image.getD 13 0)
          ∧ image.getD 0 0 ≠ 0 ∧ zeroFrom image 3 13 = true ∧ (image.getD 13 0).toNat ≤ 0xDF
          ∧ zeroFrom image 14 20 = true)
        ∨ (image.getD 2 0 = 0x03#8 ∧ a = .drop ∧ zeroFrom image 3 20 = true) := by
  unfold Action.ofImage
  simp only
  split
  · rename_i h2
    rw [h2]
    simp [BitVec.le_def, ForwardParams.ofImage, and_assoc, eq_comm (a := a)]
    tauto
  split
  · rename_i h2
    rw [h2]
    simp [BitVec.le_def, and_assoc, eq_comm (a := a)]
    tauto
  split
  · rename_i h2
    rw [h2]
    simp [BitVec.le_def, and_assoc, eq_comm (a := a)]
    tauto
  split
  · rename_i h2
    rw [h2]
    simp [eq_comm (a := a)]
    tauto
  · rename_i h0 h1 h2 h3
    simp only [h0, h1, h2, h3, false_and, or_self, reduceCtorEq]

/-- What is read as an entry: 20 characters with a legal key and a legal action (R29, R30). -/
theorem Entry.ofImage_eq_some {image : List Byte} {e : Entry} :
    Entry.ofImage image = some e ↔
      image.length = 20 ∧ keyAddrLegal (image.getD 0 0) = true ∧ functionLegal (image.getD 1 0) = true
        ∧ e.keyAddr = image.getD 0 0 ∧ e.keyFn = image.getD 1 0
        ∧ Action.ofImage image = some e.action := by
  unfold Entry.ofImage
  obtain ⟨keyAddr, keyFn, action⟩ := e
  split
  · rename_i h
    simp only [Bool.and_eq_true, decide_eq_true_eq] at h
    simp only [Option.map_eq_some_iff, Entry.mk.injEq, h, true_and]
    constructor
    · rintro ⟨a, ha, rfl, rfl, rfl⟩
      exact ⟨rfl, rfl, ha⟩
    · rintro ⟨rfl, rfl, ha⟩
      exact ⟨_, ha, rfl, rfl, rfl⟩
  · rename_i h
    simp only [Bool.and_eq_true, decide_eq_true_eq] at h
    simp only [reduceCtorEq, false_iff]
    rintro ⟨h1, h2, h3, -⟩
    exact h ⟨⟨h1, h2⟩, h3⟩

/-! ### An image that is taken is the image of what is read from it -/

/-- The parameter characters of an action and the 00h that follow them. -/
theorem take_append_zeros {l : List Byte} {n p m : Nat} (hl : l.length = m) (hn : n ≤ p) (hp : p ≤ m)
    (h : l.drop n = List.replicate (m - n) 0) :
    padTo p (l.take n) ++ List.replicate (m - p) 0 = l := by
  have hlen : (l.take n).length = n := by simp [hl]; omega
  rw [padTo, hlen, List.append_assoc, List.replicate_append_replicate,
    show p - n + (m - p) = m - n by omega, ← h, List.take_append_drop]

/-- The action read from an image of 20 characters has the characters from position 2 on as its image. -/
theorem Action.image_of_ofImage {image : List Byte} {a : Action} (hlen : image.length = 20)
    (h : Action.ofImage image = some a) : a.image = image.drop 2 := by
  have byte : ∀ b : Byte, BitVec.ofNat 8 b.toNat = b := fun b => by simp
  have tail : ∀ i, i ≤ 20 → zeroFrom image i 20 = true → image.drop i = List.replicate (20 - i) 0 := by
    intro i hi hz
    rw [drop_of_zeroFrom hz hi (by omega), List.drop_eq_nil_of_le (by omega), List.append_nil]
  rcases Action.ofImage_eq_some.1 h with ⟨h2, rfl, -, -, -, -, h8, hz, -⟩ | ⟨h2, rfl, -, hz, h13, hz'⟩
    | ⟨h2, rfl, -, hz, -, hz'⟩ | ⟨h2, rfl, hz⟩
  · set n := (image.getD 8 0).toNat
    have hn : ((image.drop 9).take n).length = n := by simp [hlen]; omega
    have htail := take_append_zeros (l := image.drop 9) (n := n) (p := 4) (m := 11) (by simp [hlen]) h8
      (by omega) (by rw [List.drop_drop, tail (9 + n) (by omega) hz]; congr 1; omega)
    rw [drop_eq_getD_cons (i := 2) (by omega), drop_eq_getD_cons (i := 3) (by omega),
      drop_eq_getD_cons (i := 4) (by omega), drop_eq_getD_cons (i := 5) (by omega),
      drop_eq_getD_cons (i := 6) (by omega), drop_eq_getD_cons (i := 7) (by omega),
      drop_eq_getD_cons (i := 8) (by omega), ← htail, h2]
    simp only [Action.image, ForwardParams.ofImage, hn, n, byte]
    rfl
  · set n := (image.getD 13 0).toNat
    have hn : ((image.drop 14).take n).length = n := by simp [hlen]; omega
    have htail := take_append_zeros (l := image.drop 14) (n := n) (p := 6) (m := 6) (by simp [hlen]) h13
      (by omega) (by rw [List.drop_drop, tail (14 + n) (by omega) hz']; congr 1; omega)
    generalize (image.drop 14).take n = characters at hn htail
    rw [drop_eq_getD_cons (i := 2) (by omega), drop_of_zeroFrom hz (by omega) (by omega),
      drop_eq_getD_cons (i := 13) (by omega), ← htail, h2]
    simp only [Action.image, hn, n, byte]
    simp
  · rw [drop_eq_getD_cons (i := 2) (by omega), drop_of_zeroFrom hz (by omega) (by omega),
      drop_eq_getD_cons (i := 13) (by omega), tail 14 (by omega) hz', h2]
    simp [Action.image]
  · rw [drop_eq_getD_cons (i := 2) (by omega), tail 3 (by omega) hz, h2]
    simp [Action.image]

/-- The action read from an image is legal under the key address of the image (R31 to R35). -/
theorem Action.legal_of_ofImage {image : List Byte} {a : Action} (h : Action.ofImage image = some a) :
    a.legal (image.getD 0 0) = true := by
  rcases Action.ofImage_eq_some.1 h with ⟨-, rfl, ho, hf, h5, h7, h8, -, hb⟩ | ⟨-, rfl, h0, -, h13, -⟩
    | ⟨-, rfl, h0, -, h13, -⟩ | ⟨-, rfl, -⟩
  · have hfront : (ForwardParams.ofImage image).front.length ≤ 4 := by
      simp only [ForwardParams.ofImage, List.length_take]; omega
    simp only [Action.legal, Bool.and_eq_true, decide_eq_true_eq, hb, hfront, BitVec.le_def]
    exact ⟨⟨⟨⟨⟨ho, hf⟩, h5⟩, h7⟩, trivial⟩, trivial⟩
  · have hlen : ((image.drop 14).take (image.getD 13 0).toNat).length ≤ 6 := by
      simp only [List.length_take]; omega
    simp only [Action.legal, Bool.and_eq_true, decide_eq_true_eq]
    exact ⟨h0, hlen⟩
  · simp only [Action.legal, Bool.and_eq_true, decide_eq_true_eq, BitVec.le_def]
    exact ⟨h0, h13⟩
  · rfl

/-- An entry that an image is read as is legal (R29 to R35). -/
theorem Entry.legal_of_ofImage {image : List Byte} {e : Entry} (h : Entry.ofImage image = some e) :
    e.legal = true := by
  obtain ⟨-, hk, hf, hk', hf', ha⟩ := Entry.ofImage_eq_some.1 h
  simp only [Entry.legal, hk', hf', hk, hf, Action.legal_of_ofImage ha, Bool.and_self]

/-- An image that is read as an entry is that entry's image (R29). -/
theorem Entry.image_of_ofImage {image : List Byte} {e : Entry} (h : Entry.ofImage image = some e) :
    e.image = image := by
  obtain ⟨hlen, -, -, hk, hf, ha⟩ := Entry.ofImage_eq_some.1 h
  rw [Entry.image, Action.image_of_ofImage hlen ha, hk, hf, ← drop_eq_getD_cons (by omega),
    ← drop_eq_getD_cons (by omega), List.drop_zero]

/-! ### The image of a legal entry reads back -/

theorem Action.image_length {key : Byte} {a : Action} (h : a.legal key = true) : a.image.length = 18 := by
  cases a with
  | forward p =>
    simp only [Action.legal, Bool.and_eq_true, decide_eq_true_eq] at h
    simp [Action.image, padTo]; omega
  | answer cs =>
    simp only [Action.legal, Bool.and_eq_true, decide_eq_true_eq] at h
    simp [Action.image, padTo]; omega
  | reject reason => simp [Action.image]
  | drop => simp [Action.image]

theorem Entry.image_length {e : Entry} (h : e.legal = true) : e.image.length = 20 := by
  simp only [Entry.legal, Bool.and_eq_true] at h
  simp [Entry.image, Action.image_length h.2]

/-- The image of a legal action, behind a key, is read as that action. -/
theorem Action.ofImage_image {k f : Byte} {a : Action} (h : a.legal k = true) :
    Action.ofImage (k :: f :: a.image) = some a := by
  have hlen : (k :: f :: a.image).length = 20 := by simp [Action.image_length h]
  rw [Action.ofImage_eq_some]
  cases a with
  | forward p =>
    obtain ⟨outAddr, outFn, retryLimit, timeout, strip, front⟩ := p
    simp only [Action.legal, Bool.and_eq_true, decide_eq_true_eq, BitVec.le_def] at h
    obtain ⟨⟨⟨⟨⟨ho, hf⟩, hr⟩, hs⟩, hfront⟩, hb⟩ := h
    have hn : (BitVec.ofNat 8 front.length).toNat = front.length := by
      rw [BitVec.toNat_ofNat]; exact Nat.mod_eq_of_lt (by omega)
    have hread : ForwardParams.ofImage
        (k :: f :: (Action.forward ⟨outAddr, outFn, retryLimit, timeout, strip, front⟩).image)
        = ⟨outAddr, outFn, retryLimit, timeout, strip, front⟩ := by
      simp only [ForwardParams.ofImage, Action.image, ForwardParams.mk.injEq]
      refine ⟨rfl, rfl, rfl, rfl, rfl, ?_⟩
      change List.take (BitVec.ofNat 8 front.length).toNat _ = _
      rw [hn]
      simp [padTo]
    refine .inl ⟨rfl, by rw [hread], ho, hf, hr, hs, ?_, ?_, ?_⟩
    · change (BitVec.ofNat 8 front.length).toNat ≤ 4
      omega
    · change zeroFrom _ (9 + (BitVec.ofNat 8 front.length).toNat) 20 = true
      rw [hn, ← hlen]
      refine zeroFrom_of_drop (n := 11 - front.length) ?_
      rw [← List.drop_drop]
      change ((padTo 4 front ++ List.replicate 7 0 : List Byte).drop front.length) = _
      rw [padTo, List.append_assoc, List.drop_left, List.replicate_append_replicate]
      congr 1; omega
    · rw [hread]; exact hb
  | answer cs =>
    simp only [Action.legal, Bool.and_eq_true, decide_eq_true_eq] at h
    obtain ⟨hk, hcs⟩ := h
    have hn : (BitVec.ofNat 8 cs.length).toNat = cs.length := by
      rw [BitVec.toNat_ofNat]; exact Nat.mod_eq_of_lt (by omega)
    have h13 : (k :: f :: (Action.answer cs).image).getD 13 0 = BitVec.ofNat 8 cs.length := rfl
    rw [h13, hn]
    refine .inr (.inl ⟨rfl, ?_, hk, rfl, hcs, ?_⟩)
    · change _ = Action.answer ((padTo 6 cs).take cs.length)
      simp [padTo]
    · rw [← hlen]
      refine zeroFrom_of_drop (n := 6 - cs.length) ?_
      rw [← List.drop_drop]
      change (padTo 6 cs).drop cs.length = _
      rw [padTo, List.drop_left]
  | reject reason =>
    simp only [Action.legal, Bool.and_eq_true, decide_eq_true_eq] at h
    exact .inr (.inr (.inl ⟨rfl, rfl, h.1, rfl, h.2, rfl⟩))
  | drop => exact .inr (.inr (.inr ⟨rfl, rfl, rfl⟩))

/-- The image of a legal entry is read as that entry. -/
theorem Entry.ofImage_image {e : Entry} (h : e.legal = true) : Entry.ofImage e.image = some e := by
  have hlen := Entry.image_length h
  simp only [Entry.legal, Bool.and_eq_true] at h
  obtain ⟨⟨hk, hf⟩, ha⟩ := h
  exact Entry.ofImage_eq_some.2 ⟨hlen, hk, hf, rfl, rfl, Action.ofImage_image ha⟩

/-! ### Headers -/

theorem Header.legal_iff (h : Header) :
    h.legal = true ↔ (0xF0 ≤ h.mgmtAddr.toNat ∧ h.mgmtAddr.toNat ≤ 0xFE) ∧ 1 ≤ h.defaultTimeout.toNat
      ∧ 1 ≤ h.quarantine.toNat := by
  simp [Header.legal, BitVec.le_def, ← BitVec.toNat_inj, and_assoc, Nat.one_le_iff_ne_zero]

/-- What is read as a header: eight characters, the second the code of a miss action, and a legal header
(R36). -/
theorem Header.ofImage_eq_some {image : List Byte} {h : Header} :
    Header.ofImage image = some h ↔ h.legal = true ∧ h.image = image := by
  constructor
  · intro hread
    unfold Header.ofImage at hread
    split at hread
    · simp only at hread
      split at hread
      · rename_i hm
        split at hread
        · rename_i hl
          obtain rfl := Option.some.inj hread
          exact ⟨hl, by rw [hm]; rfl⟩
        · cases hread
      · split at hread
        · rename_i hm
          split at hread
          · rename_i hl
            obtain rfl := Option.some.inj hread
            exact ⟨hl, by rw [hm]; rfl⟩
          · cases hread
        · cases hread
    · cases hread
  · rintro ⟨hl, rfl⟩
    obtain ⟨mgmtAddr, missAction, defaultTimeout, quarantine, ⟨⟨label⟩, hlabel⟩⟩ := h
    match label, hlabel with
    | [l0, l1, l2, l3], _ =>
      cases missAction
      · exact if_pos hl
      · exact if_pos hl

theorem Header.legal_of_ofImage {image : List Byte} {h : Header} (hr : Header.ofImage image = some h) :
    h.legal = true := (Header.ofImage_eq_some.1 hr).1

theorem Header.image_length (h : Header) : h.image.length = 8 := by simp [Header.image]

/-- The eight characters of a header's image, position by position (R36). -/
theorem Header.image_eq_iff {h : Header} {a m t q l0 l1 l2 l3 : Byte} :
    h.image = [a, m, t, q, l0, l1, l2, l3] ↔ h.mgmtAddr = a ∧ h.missAction.code = m ∧ h.defaultTimeout = t
      ∧ h.quarantine = q ∧ h.label = #v[l0, l1, l2, l3] := by
  have hlabel : h.label.toList = [l0, l1, l2, l3] ↔ h.label = #v[l0, l1, l2, l3] :=
    ⟨fun e => Vector.toList_inj.1 e, fun e => by rw [e]; rfl⟩
  simp only [Header.image, List.cons_append, List.nil_append, List.cons.injEq, hlabel]

/-- Two codes and no other name a miss action (R36). -/
theorem MissAction.exists_code {m : Byte} : (∃ a : MissAction, a.code = m) ↔ m.toNat ≤ 1 := by
  constructor
  · rintro ⟨a, rfl⟩
    cases a <;> decide
  · intro hm
    have hm' : m.toNat = 0 ∨ m.toNat = 1 := by omega
    rcases hm' with h | h
    · exact ⟨.drop, BitVec.eq_of_toNat_eq h.symm⟩
    · exact ⟨.reject, BitVec.eq_of_toNat_eq h.symm⟩

/-- Which eight characters are taken as a header (R36). -/
theorem Header.ofImage_isSome {a m t q l0 l1 l2 l3 : Byte} :
    (Header.ofImage [a, m, t, q, l0, l1, l2, l3]).isSome = true ↔
      (0xF0 ≤ a.toNat ∧ a.toNat ≤ 0xFE) ∧ m.toNat ≤ 1 ∧ 1 ≤ t.toNat ∧ 1 ≤ q.toNat := by
  simp only [Option.isSome_iff_exists, Header.ofImage_eq_some, Header.image_eq_iff, Header.legal_iff,
    ← MissAction.exists_code]
  constructor
  · rintro ⟨h, ⟨ha, ht, hq⟩, rfl, rfl, rfl, rfl, -⟩
    exact ⟨ha, ⟨_, rfl⟩, ht, hq⟩
  · rintro ⟨ha, ⟨miss, rfl⟩, ht, hq⟩
    exact ⟨⟨a, miss, t, q, #v[l0, l1, l2, l3]⟩, ⟨ha, ht, hq⟩, rfl, rfl, rfl, rfl, rfl⟩

/-! ### The statement -/

/-- The character at a position below an image's length. -/
theorem getElem?_of_getD {image : List Byte} {i : Nat} {b : Byte} (hi : i < image.length)
    (h : b = image.getD i 0) : image[i]? = some b := by
  rw [h, List.getD_eq_getElem?_getD, List.getElem?_eq_getElem hi, Option.getD_some]

/-- Settles O56: an image is taken by its fields position by position, and put together from them again. -/
theorem imagesReadBack : Obligations.ImagesReadBack := by
  refine ⟨⟨fun e he => ⟨Entry.image_length he, Entry.ofImage_image he⟩,
      fun image e he => ⟨Entry.legal_of_ofImage he, Entry.image_of_ofImage he⟩⟩,
    ⟨fun h hl => ⟨h.image_length, Header.ofImage_eq_some.2 ⟨hl, rfl⟩⟩,
      fun image h hr => Header.ofImage_eq_some.1 hr,
      fun a m t q l0 l1 l2 l3 => ⟨Header.ofImage_isSome, fun h hr => ?_⟩⟩, fun image => ⟨?_, fun e he => ?_⟩⟩
  · obtain ⟨-, himage⟩ := Header.ofImage_eq_some.1 hr
    obtain ⟨ha, rfl, ht, hq, hlabel⟩ := Header.image_eq_iff.1 himage
    refine ⟨ha, ?_, ?_, ht, hq, hlabel⟩ <;> cases h.missAction <;> simp [MissAction.code]
  · have exists_entry : (∃ e, Entry.ofImage image = some e) ↔ image.length = 20
        ∧ keyAddrLegal (image.getD 0 0) = true ∧ functionLegal (image.getD 1 0) = true
        ∧ ∃ a, Action.ofImage image = some a := by
      simp only [Entry.ofImage_eq_some]
      exact ⟨fun ⟨e, h1, h2, h3, _, _, h4⟩ => ⟨h1, h2, h3, e.action, h4⟩,
        fun ⟨h1, h2, h3, a, h4⟩ => ⟨⟨_, _, a⟩, h1, h2, h3, rfl, rfl, h4⟩⟩
    rw [Option.isSome_iff_exists, exists_entry]
    simp only [Action.ofImage_eq_some, keyAddrLegal_iff, functionLegal_iff, outAddrLegal_iff,
      broadcastLegal_iff, zeroFrom_iff, exists_or, exists_and_left, exists_eq_left, Ne,
      byte_eq_zero_iff,
      show ∀ b : Byte, b = 0#8 ↔ b.toNat = 0 from fun b => byte_eq_iff_toNat (by omega),
      show ∀ b : Byte, b = 1#8 ↔ b.toNat = 1 from fun b => byte_eq_iff_toNat (by omega),
      show ∀ b : Byte, b = 2#8 ↔ b.toNat = 2 from fun b => byte_eq_iff_toNat (by omega),
      show ∀ b : Byte, b = 3#8 ↔ b.toNat = 3 from fun b => byte_eq_iff_toNat (by omega)]
    exact Iff.rfl
  · obtain ⟨hlen, -, -, hk, hf, ha⟩ := Entry.ofImage_eq_some.1 he
    have read : ∀ i b, i < 20 → b = image.getD i 0 → image[i]? = some b :=
      fun i b hi hb => getElem?_of_getD (by omega) hb
    have code : ∀ n, n < 256 → image.getD 2 0 = BitVec.ofNat 8 n → (image.getD 2 0).toNat = n :=
      fun n hn h => (byte_eq_iff_toNat hn).1 h
    refine ⟨read 0 _ (by omega) hk, read 1 _ (by omega) hf, ?_⟩
    rcases Action.ofImage_eq_some.1 ha with ⟨h2, ha, -, -, -, -, h8, -, -⟩ | ⟨h2, ha, -, -, h13, -⟩
      | ⟨h2, ha, -⟩ | ⟨h2, ha, -⟩ <;> rw [ha]
    · refine ⟨code 0 (by omega) h2, read 3 _ (by omega) rfl, read 4 _ (by omega) rfl, read 5 _ (by omega) rfl,
        read 6 _ (by omega) rfl, read 7 _ (by omega) rfl, ?_, fun i hi => ?_⟩
      · simp only [ForwardParams.ofImage, List.length_take, List.length_drop]; omega
      · simp only [ForwardParams.ofImage]
        rw [List.getElem?_take_of_lt hi, List.getElem?_drop]
    · refine ⟨code 1 (by omega) h2, ?_, fun i hi => ?_⟩
      · simp only [List.length_take, List.length_drop]; omega
      · rw [List.getElem?_take_of_lt hi, List.getElem?_drop]
    · exact ⟨code 2 (by omega) h2, read 13 _ (by omega) rfl⟩
    · exact code 3 (by omega) h2

end Sys2Proof.Machine
end

section
/-! PROOFS. Every event of the store is the end of the stage in flight and what follows on it: the commands
at their intake and the stage-end events, brought into that form. -/

namespace Sys2Proof.Machine

/-! ### Staged and copied slots -/

@[simp] theorem pageOf_slotAt (p : PageNo) (i : Fin 8) : pageOf (slotAt p i) = p := by
  ext; simp only [pageOf, slotAt]; omega

theorem segmentOf_slotAt (p : PageNo) (i : Fin 8) : segmentOf (slotAt p i) = segmentOfPage p := by
  ext; simp only [segmentOf, segmentOfPage, slotAt]; omega

theorem segmentOf_of_pageOf {n : SlotNo} {p : PageNo} (h : pageOf n = p) : segmentOf n = segmentOfPage p := by
  subst h; ext; simp only [segmentOf, segmentOfPage, pageOf]; omega

/-- The next staged slot is staged, and not below the slot looked for (R131). -/
theorem nextStaged_some {p : PageNo} {entries : Vector (Option Entry) 8} {from' : Nat} {n : SlotNo} {e : Entry}
    (h : nextStaged p entries from' = some (n, e)) :
    ∃ i, entries.get i = some e ∧ n = slotAt p i ∧ from' ≤ n.val := by
  obtain ⟨i, -, hi⟩ := List.exists_of_findSome?_eq_some h
  split at hi
  · rename_i hle
    obtain ⟨e', he, hpair⟩ := Option.map_eq_some_iff.1 hi
    obtain ⟨rfl, rfl⟩ := Prod.mk.inj hpair
    exact ⟨i, he, rfl, hle⟩
  · cases hi

/-- From its own slot on, the next staged slot is the entry staged there (R131). -/
theorem nextStaged_self {p : PageNo} {entries : Vector (Option Entry) 8} {i : Fin 8} {e : Entry}
    (h : entries.get i = some e) : nextStaged p entries (slotAt p i).val = some (slotAt p i, e) := by
  have hsplit : List.finRange 8 = (List.finRange 8).take i.val ++ i :: (List.finRange 8).drop (i.val + 1) := by
    have := List.take_append_drop i.val (List.finRange 8)
    rw [List.drop_eq_getElem_cons (by simp)] at this
    simpa using this.symm
  refine List.findSome?_eq_some_iff.2 ⟨_, i, _, hsplit, by simp [h], fun j hj => ?_⟩
  obtain ⟨k, hk, rfl⟩ := List.mem_iff_getElem.1 hj
  have hlt : k < i.val := by simp only [List.length_take, List.length_finRange] at hk; omega
  exact if_neg (by simp only [slotAt, List.getElem_take, List.getElem_finRange, Fin.val_cast]; omega)

/-- The next VALID slot of a segment is one, and not below the slot looked for (R140). -/
theorem Bank.nextToCopy_some {k : Bank} (hk : k.Sound) {g : SegmentNo} {from' : Nat} {n : SlotNo} {e : Entry}
    (h : k.nextToCopy g from' = some (n, e)) :
    k.slot n = .valid e ∧ segmentOf n = g ∧ from' ≤ n.val := by
  unfold Bank.nextToCopy at h
  split at h
  · obtain ⟨⟨j, x⟩, hmem, hj⟩ := List.exists_of_findSome?_eq_some h
    split at hj
    · rename_i e' hx
      split at hj
      · rename_i hc
        obtain ⟨rfl, rfl⟩ := Prod.mk.inj (Option.some.inj hj)
        simp only [Bool.and_eq_true, decide_eq_true_eq] at hc
        exact ⟨(SlotMap.read_of_mem hk.canonical hmem).trans hx, hc⟩
      · cases hj
    · cases hj
  · cases h

/-- The blank test of PROGRAM STAGE finds every staged slot BLANK (R131). -/
theorem Bank.slot_of_pageBlank {k : Bank} {p : PageNo} {entries : Vector (Option Entry) 8}
    (h : k.pageBlank p entries = true) {i : Fin 8} {e : Entry} (he : entries.get i = some e) :
    k.slot (slotAt p i) = .blank := by
  simp only [Bank.pageBlank, Bool.and_eq_true, List.all_eq_true, Bool.or_eq_true, decide_eq_true_eq] at h
  simpa [he] using h.2 i (List.mem_finRange i)

/-- The blank test of COPY SEGMENT finds every slot of the segment BLANK (R140). -/
theorem Bank.slot_of_segmentBlank {k : Bank} {g : SegmentNo} (h : k.segmentBlank g = true) {n : SlotNo}
    (hn : segmentOf n = g) : k.slot n = .blank := by
  by_contra hne
  simp only [Bank.segmentBlank, Bool.and_eq_true, List.all_eq_true] at h
  have := h.2 _ (SlotMap.mem_of_read hne)
  simp [hn] at this

/-! ### How the store goes on -/

/-- Two states between which only what the laws do not speak of has changed, or the operation in flight. -/
structure State.Like (s u : State) : Prop where
  same : s.SameStage u
  nv : u.nv = s.nv
  staging : u.ts.staging = s.ts.staging
  op : u.ts.op = s.ts.op

theorem StoreOp.Begins.of_like {s u : State} {op : StoreOp} {v : Nonvolatile} (h : op.Begins u v)
    (hl : s.Like u) : op.Begins s v := by
  obtain ⟨same, hnv, hstaging, hop⟩ := hl
  have hspares := op.sparesLocks_congr (State.locked_congr hnv) hstaging
  have hahead := op.blankAhead_congr hnv hstaging
  cases h with
  | write hw hblank hs ha hfollows =>
    rw [hnv] at hblank ⊢
    exact .write hw hblank (hspares.1 hs) (hahead.1 ha) fun p hp => hfollows p (hop.trans hp)
  | header b h => rw [hnv]; exact .header b h
  | erase he hs => rw [hnv]; exact .erase he (hspares.1 hs)
  | lock b n => rw [hnv]; exact .lock b n
  | eraseHeader b o => rw [hnv]; exact .eraseHeader b o
  | check b => rw [hnv]; exact .check b
  | commit w stage hready => rw [hnv] at hready ⊢; exact .commit w stage hready
  | commitCell w stage x hready => rw [hnv] at hready ⊢; rw [same.mode]; exact .commitCell w stage x hready

theorem State.GoesOn.of_like {s u t : State} (h : u.GoesOn t) (hl : s.Like u) : s.GoesOn t := by
  cases h with
  | rests same hnv hop hstaging =>
    exact .rests (hl.same.trans same) (hnv.trans hl.nv) hop fun hs =>
      hstaging (by simpa only [State.StagingLaw, hl.staging] using hs)
  | begins same hbegins htarget hsound hop hstaging hlatch =>
    exact .begins (hl.same.trans same) (hbegins.of_like hl) (by simpa only [hl.same.mode] using htarget)
      (by simpa only [hl.same.mode] using hsound) hop (hstaging.trans hl.staging) hlatch

theorem State.accept_like (s : State) (last : LastOp) : s.Like (s.accept last) :=
  ⟨⟨rfl, rfl, rfl⟩, rfl, rfl, rfl⟩

theorem State.setLastCheck_like (s : State) (w : Word) : s.Like (s.setLastCheck w) :=
  ⟨⟨rfl, rfl, rfl⟩, rfl, rfl, rfl⟩

/-- A completion leaves the store at rest (R120). -/
theorem State.goesOn_complete (u : State) (r : LastResult) : u.GoesOn (u.complete r) :=
  .rests ⟨rfl, rfl, rfl⟩ rfl rfl id

theorem State.goesOn_completeStage (u : State) (r : LastResult) : u.GoesOn (u.completeStage r) :=
  .rests ⟨rfl, rfl, rfl⟩ rfl rfl fun _ => trivial

/-- An element write of a slot begins (R125). -/
theorem State.goesOn_beginSlotWrite {u : State} {b : BankId} {n : SlotNo} {op : StoreOp}
    (hw : op.writes b n = true) (hb : b = u.standby) (hlatch : u.ts.faultLatch = false)
    (hsound : op.Sound u.ts.mode) (hblank : (u.nv.bank b).slot n = .blank) (hspares : op.SparesLocks u)
    (hahead : op.BlankAhead u) (hfollows : u.WriteMayFollow) : u.GoesOn (u.beginSlotWrite b n op) := by
  refine .begins ⟨rfl, rfl, rfl⟩ (.write hw hblank hspares hahead hfollows) (fun c hc => ?_) hsound rfl rfl
    hlatch
  rw [StoreOp.target_of_writes hw] at hc
  cases hc
  exact hb

/-- A segment erase begins (R126). -/
theorem State.goesOn_beginSegmentErase {u : State} {b : BankId} {n : SegmentNo} {op : StoreOp}
    (he : op.erases b n = true) (hb : b = u.standby) (hlatch : u.ts.faultLatch = false)
    (hspares : op.SparesLocks u) : u.GoesOn (u.beginSegmentErase b n op) := by
  refine .begins ⟨rfl, rfl, rfl⟩ (.erase he hspares) (fun c hc => ?_) ?_ rfl rfl hlatch
  · rw [StoreOp.target_of_erases he] at hc
    cases hc
    exact hb
  · obtain ⟨o, rfl | rfl⟩ := StoreOp.erases_iff.1 he <;> trivial

/-- ERASE BANK goes on with a segment that is not locked or under override, or completes (R137, R138). -/
theorem State.goesOn_eraseNext {u : State} {b : BankId} (override : Bool) (from' : Nat) (hb : b = u.standby)
    (hlatch : u.ts.faultLatch = false) : u.GoesOn (u.eraseNext b override from') := by
  rcases u.eraseNext_cases b override from' with ⟨m, hm, h⟩ | h
  · rw [h]
    exact State.goesOn_beginSegmentErase (StoreOp.erases_iff.2 ⟨override, .inr rfl⟩) hb hlatch hm
  · rw [h]; exact u.goesOn_complete .ok

/-- PROGRAM STAGE goes on with a staged slot of the staged page, when the slots that it has not yet written
are BLANK and their segment unlocked (R131). -/
theorem State.goesOn_programNext {u : State} {b : BankId} {p : PageNo} {entries : Vector (Option Entry) 8}
    {from' : Nat} (hfollows : u.WriteMayFollow) (hb : b = u.standby) (hlatch : u.ts.faultLatch = false)
    (hstaging : u.StagingLaw) (hpage : u.ts.staging = .page p entries)
    (hlock : u.locked b (segmentOfPage p) = false)
    (hblank : ∀ i e, entries.get i = some e → from' ≤ (slotAt p i).val →
      (u.nv.bank b).slot (slotAt p i) = .blank) :
    u.GoesOn (u.programNext b (nextStaged p entries from')) := by
  rcases u.programNext_cases b (nextStaged p entries from') with ⟨n, e, hn, h⟩ | ⟨-, h⟩
  · obtain ⟨i, hi, rfl, hle⟩ := nextStaged_some hn
    rw [State.StagingLaw, hpage] at hstaging
    rw [h]
    refine State.goesOn_beginSlotWrite (StoreOp.writes_iff.2 (.inl ⟨e, rfl⟩)) hb hlatch (hstaging.2 i e hi)
      (hblank i e hi hle) ⟨?_, p, entries, hpage, pageOf_slotAt p i⟩ ?_ hfollows
    · rw [segmentOf_slotAt]; exact hlock
    · intro k x hx hlt
      rw [hpage] at hx
      obtain ⟨j, hj, hxj, -⟩ := nextStaged_some (e := x.2) (n := x.1) hx
      rw [hxj] at hlt ⊢
      exact hblank j x.2 hj (le_trans hle (le_of_lt hlt))
  · rw [h]; exact u.goesOn_completeStage .ok

/-- COPY SEGMENT goes on with a slot of the segment, when the slots that it has not yet written are BLANK and
the segment unlocked (R140). -/
theorem State.goesOn_copyNext {u : State} {b : BankId} {k : Bank} (hk : k.Sound) {g : SegmentNo} {from' : Nat}
    (hfollows : u.WriteMayFollow) (hb : b = u.standby) (hlatch : u.ts.faultLatch = false)
    (hlock : u.locked b g = false)
    (hblank : ∀ n, segmentOf n = g → from' ≤ n.val → (u.nv.bank b).slot n = .blank) :
    u.GoesOn (u.copyNext b g (k.nextToCopy g from')) := by
  rcases u.copyNext_cases b g (k.nextToCopy g from') with ⟨n, e, hn, h⟩ | ⟨-, h⟩
  · obtain ⟨hvalid, hseg, hle⟩ := Bank.nextToCopy_some hk hn
    rw [h]
    exact State.goesOn_beginSlotWrite (StoreOp.writes_iff.2 (.inr ⟨g, e, rfl⟩)) hb hlatch
      ⟨hk.entries n e hvalid, hseg⟩ (hblank n hseg hle) hlock
      (fun j hj hlt => hblank j hj (le_trans hle (le_of_lt hlt))) hfollows
  · rw [h]; exact u.goesOn_complete .ok

/-! ### The commands at their intake -/

/-- A staging buffer stays sound as a legal entry is staged (R127, R128). -/
theorem Staging.Sound.stage {b b' : Staging} {n : SlotNo} {e : Entry} (h : b.Sound) (he : e.legal = true)
    (hs : b.stage n e = some b') : b'.Sound := by
  have added : ∀ (p : PageNo) (entries : Vector (Option Entry) 8),
      (∀ i x, entries.get i = some x → x.legal = true) →
      (Staging.page p (setAt entries (placeOf n) (some e))).Sound := by
    intro p entries hall
    refine ⟨⟨placeOf n, by simp⟩, fun i x hx => ?_⟩
    rw [get_setAt] at hx
    split at hx
    · cases hx; exact he
    · exact hall i x hx
  cases b with
  | empty =>
    cases hs
    exact added _ _ (by simp)
  | page p entries =>
    simp only [Staging.stage] at hs
    split at hs
    · cases hs
      exact added _ _ h.2
    · cases hs

/-- What a management command does to the store: nothing; in a running erase it draws what the cells hold; or
with no operation in flight it leaves the store at rest or begins an operation (R122, R129 to R147). -/
theorem Command.run_store {s : State} (hs : s.StoreInv) (f : Frame) (c : Command) :
    (c.run f s).2.storeView = s.storeView ∨ (c.run f s).2 = s.eraseProgress
      ∨ s.ts.op = none ∧ s.GoesOn (c.run f s).2 := by
  have reply : ∀ (payload : State → List Byte) (x : Except Declined State),
      (∀ t, x = .ok t → s.ts.op = none ∧ s.GoesOn t) →
      (s.storeReply payload x).2.storeView = s.storeView ∨ (s.storeReply payload x).2 = s.eraseProgress
        ∨ s.ts.op = none ∧ s.GoesOn (s.storeReply payload x).2 := by
    intro payload x hx
    rcases s.storeReply_cases payload x with ⟨t, ht, h⟩ | ⟨d, -, h⟩
    · rw [h]; exact .inr (.inr (hx t ht))
    · rw [h]; exact .inl rfl
  cases c with
  | readStatus | readCounters | readTracker | readSegments => exact .inl rfl
  | readAndClearCounters => exact .inl s.clearCounters_storeView
  | flushTracker => exact .inl s.flush_storeView
  | readEntry | readHeader => exact .inr (.inl rfl)
  | restart =>
    refine .inl ?_
    simp only [Command.run, State.requestRestart]
    split <;> rfl
  | stageEntry n image =>
    refine reply _ _ fun t ht => ?_
    obtain ⟨e, b, he, ho, hb, rfl⟩ := State.stageEntry_ok ht
    exact ⟨ho, .rests ⟨rfl, rfl, rfl⟩ rfl ho fun hst => Staging.Sound.stage hst (Entry.legal_of_ofImage he) hb⟩
  | discardStage =>
    refine reply _ _ fun t ht => ?_
    obtain ⟨ho, rfl⟩ := State.discardStage_ok ht
    exact ⟨ho, .rests ⟨rfl, rfl, rfl⟩ rfl ho fun _ => trivial⟩
  | clearFault =>
    refine reply _ _ fun t ht => ?_
    obtain ⟨ho, rfl⟩ := State.clearFault_ok ht
    exact ⟨ho, .rests ⟨rfl, rfl, rfl⟩ rfl ho id⟩
  | programStage =>
    refine reply _ _ fun t ht => ?_
    obtain ⟨p, entries, ho, hf, hpage, hlock, ⟨hblank, rfl⟩ | ⟨-, rfl⟩⟩ := State.programStage_ok ht
    · refine ⟨ho, (State.goesOn_programNext (u := s.accept .programStage)
        (State.writeMayFollow_of_none ho) rfl hf hs.staging hpage hlock fun i e he _ => ?_).of_like
        (s.accept_like .programStage)⟩
      exact Bank.slot_of_pageBlank hblank he
    · exact ⟨ho, (State.goesOn_completeStage _ _).of_like (s.accept_like _)⟩
  | programHeader image =>
    refine reply _ _ fun t ht => ?_
    obtain ⟨x, hx, ho, hf, ⟨-, rfl⟩ | ⟨-, rfl⟩⟩ := State.programHeader_ok ht
    · exact ⟨ho, .begins ⟨rfl, rfl, rfl⟩ (.header _ x) (fun b hb => (Option.some.inj hb).symm)
        (Header.legal_of_ofImage hx) rfl rfl hf⟩
    · exact ⟨ho, (State.goesOn_complete _ _).of_like (s.accept_like _)⟩
  | eraseSegment n flag =>
    refine reply _ _ fun t ht => ?_
    obtain ⟨override, -, ho, hf, -, hlock, rfl⟩ := State.eraseSegment_ok ht
    exact ⟨ho, (State.goesOn_beginSegmentErase (u := s.accept .eraseSegment)
      (StoreOp.erases_iff.2 ⟨override, .inl rfl⟩) rfl hf hlock).of_like (s.accept_like _)⟩
  | eraseBank flag =>
    refine reply _ _ fun t ht => ?_
    obtain ⟨override, -, ho, hf, -, rfl⟩ := State.eraseBank_ok ht
    exact ⟨ho, .begins ⟨rfl, rfl, rfl⟩ (.eraseHeader _ override) (fun b hb => (Option.some.inj hb).symm)
      trivial rfl rfl hf⟩
  | copySegment n =>
    refine reply _ _ fun t ht => ?_
    obtain ⟨a, ho, hf, -, hlock, ⟨hblank, rfl⟩ | ⟨-, rfl⟩⟩ := State.copySegment_ok ht
    · exact ⟨ho, (State.goesOn_copyNext (u := s.accept .copySegment) (hs.banks a)
        (State.writeMayFollow_of_none ho) rfl hf hlock fun j hj _ =>
          Bank.slot_of_segmentBlank hblank hj).of_like (s.accept_like .copySegment)⟩
    · exact ⟨ho, (State.goesOn_complete _ _).of_like (s.accept_like _)⟩
  | lockSegment b n =>
    refine reply _ _ fun t ht => ?_
    obtain ⟨ho, hf, ⟨-, rfl⟩ | ⟨-, rfl⟩⟩ := State.lockSegment_ok ht
    · exact ⟨ho, (State.goesOn_complete _ _).of_like (s.accept_like _)⟩
    · exact ⟨ho, .begins ⟨rfl, rfl, rfl⟩ (.lock b n) (fun c hc => by cases hc) trivial rfl rfl hf⟩
  | checkBank =>
    refine reply _ _ fun t ht => ?_
    obtain ⟨ho, hf, rfl⟩ := State.checkBank_ok ht
    exact ⟨ho, .begins ⟨rfl, rfl, rfl⟩ (.check _) (fun b hb => (Option.some.inj hb).symm) trivial rfl rfl hf⟩
  | commit w =>
    refine reply _ _ fun t ht => ?_
    obtain ⟨ho, hf, ⟨hready, rfl⟩ | ⟨-, rfl⟩⟩ := State.commit_ok ht
    · exact ⟨ho, .begins ⟨rfl, rfl, rfl⟩ (.commit w .checking hready) (fun b hb => (Option.some.inj hb).symm)
        trivial rfl rfl hf⟩
    · exact ⟨ho, (State.goesOn_complete _ _).of_like (s.accept_like _)⟩

/-! ### The ends of the stages -/

/-- The end of a stage that leaves the memory as it is, and what follows. -/
theorem State.StageEnd.of_unmarked {s : State} {op : StoreOp} (ho : s.ts.op = some op) (h : op.Unmarked) :
    s.StageEnd s :=
  .still fun op' h' => by rw [ho] at h'; cases h'; exact h

theorem execElementWriteEnd_store {s t : State} {image : List Byte} (hs : s.StoreInv)
    (h : execElementWriteEnd image s = .next t) : ∃ u, s.StageEnd u ∧ u.GoesOn t := by
  unfold execElementWriteEnd at h
  split at h
  · rename_i b n e ho
    obtain ⟨hlatch, -, hlegal, htarget⟩ := hs.operation _ ho
    obtain ⟨hlock, p, entries, hpage, hp⟩ := hs.locks.1 _ ho
    have hahead := hs.blankAhead _ ho
    have hw : (StoreOp.programStage b n e).writes b n = true := StoreOp.writes_iff.2 (.inl ⟨e, rfl⟩)
    obtain rfl := Host.Outcome.next.inj h
    split
    · refine ⟨_, .slot ho hw (x := .valid e) hlegal, ?_⟩
      rw [hpage]
      refine State.goesOn_programNext (State.writeMayFollow_of_writes ho hw) (htarget b rfl) hlatch hs.staging
        hpage ?_ fun i x hx hle => ?_
      · rw [segmentOf_of_pageOf hp] at hlock
        rw [State.locked, State.mapBank_nv, Nonvolatile.bank_mapBank, if_pos rfl]
        exact hlock
      · have hlt : n < slotAt p i := hle
        rw [State.mapBank_nv, Nonvolatile.bank_mapBank, if_pos rfl, Bank.slot_setSlot, if_neg (ne_of_lt hlt)]
        refine hahead (slotAt p i).val (slotAt p i, x) ?_ hlt
        rw [hpage]; exact nextStaged_self hx
    · exact ⟨_, .slot ho hw (x := .torn) trivial, State.goesOn_completeStage _ _⟩
  · rename_i b x ho
    obtain ⟨-, -, hlegal, -⟩ := hs.operation _ ho
    obtain rfl := Host.Outcome.next.inj h
    split
    · exact ⟨_, .header ho (x := .valid x) hlegal, State.goesOn_complete _ _⟩
    · exact ⟨_, .header ho (x := .torn) trivial, State.goesOn_complete _ _⟩
  · rename_i b g n e ho
    obtain ⟨hlatch, -, ⟨hlegal, hseg⟩, htarget⟩ := hs.operation _ ho
    have hlock : s.locked b g = false := hs.locks.1 _ ho
    have hahead := hs.blankAhead _ ho
    have hw : (StoreOp.copySegment b g n e).writes b n = true := StoreOp.writes_iff.2 (.inr ⟨g, e, rfl⟩)
    obtain rfl := Host.Outcome.next.inj h
    split
    · refine ⟨_, .slot ho hw (x := .valid e) hlegal, ?_⟩
      refine State.goesOn_copyNext (hs.banks _) (State.writeMayFollow_of_writes ho hw) (htarget b rfl) hlatch ?_
        fun j hj hle => ?_
      · rw [State.locked, State.mapBank_nv, Nonvolatile.bank_mapBank, if_pos rfl]
        exact hlock
      · have hlt : n < j := hle
        rw [State.mapBank_nv, Nonvolatile.bank_mapBank, if_pos rfl, Bank.slot_setSlot, if_neg (ne_of_lt hlt)]
        exact hahead j hj hlt
    · exact ⟨_, .slot ho hw (x := .torn) trivial, State.goesOn_complete _ _⟩
  · cases h

theorem execSegmentEraseEnd_store {s t : State} (hs : s.StoreInv) (h : execSegmentEraseEnd s = .next t) :
    ∃ u, s.StageEnd u ∧ u.GoesOn t := by
  unfold execSegmentEraseEnd at h
  split at h
  · rename_i b n override ho
    obtain rfl := Host.Outcome.next.inj h
    exact ⟨_, .segment override ho (StoreOp.erases_iff.2 ⟨override, .inl rfl⟩), State.goesOn_complete _ _⟩
  · rename_i b override n ho
    obtain ⟨hlatch, -, -, htarget⟩ := hs.operation _ ho
    obtain rfl := Host.Outcome.next.inj h
    exact ⟨_, .segment override ho (StoreOp.erases_iff.2 ⟨override, .inr rfl⟩),
      State.goesOn_eraseNext override _ (htarget b rfl) hlatch⟩
  · cases h

theorem execHeaderEraseEnd_store {s t : State} (hs : s.StoreInv) (h : execHeaderEraseEnd s = .next t) :
    ∃ u, s.StageEnd u ∧ u.GoesOn t := by
  unfold execHeaderEraseEnd at h
  split at h
  · rename_i b override ho
    obtain ⟨hlatch, -, -, htarget⟩ := hs.operation _ ho
    obtain rfl := Host.Outcome.next.inj h
    exact ⟨_, .headerErased ho, State.goesOn_eraseNext override _ (htarget b rfl) hlatch⟩
  · cases h

theorem execLockWriteEnd_store {s t : State} (h : execLockWriteEnd s = .next t) :
    ∃ u, s.StageEnd u ∧ u.GoesOn t := by
  unfold execLockWriteEnd at h
  split at h
  · rename_i ho
    obtain rfl := Host.Outcome.next.inj h
    exact ⟨s, .of_unmarked ho ⟨fun _ _ => rfl, fun _ => rfl, fun _ _ => rfl⟩, s.goesOn_complete .ok⟩
  · cases h

theorem execCheckBankComplete_store {s t : State} (h : execCheckBankComplete s = .next t) :
    ∃ u, s.StageEnd u ∧ u.GoesOn t := by
  unfold execCheckBankComplete at h
  split at h
  · rename_i ho
    obtain rfl := Host.Outcome.next.inj h
    exact ⟨s, .of_unmarked ho ⟨fun _ _ => rfl, fun _ => rfl, fun _ _ => rfl⟩,
      (State.goesOn_complete _ _).of_like (s.setLastCheck_like _)⟩
  · cases h

/-- A commit marks no element. -/
theorem StoreOp.commit_unmarked (b : BankId) (w : Word) (stage : CommitStage) :
    (StoreOp.commit b w stage).Unmarked := ⟨fun _ _ => rfl, fun _ => rfl, fun _ _ => rfl⟩

theorem execCommitCheckStageEnd_store {s t : State} (hs : s.StoreInv)
    (h : execCommitCheckStageEnd s = .next t) : ∃ u, s.StageEnd u ∧ u.GoesOn t := by
  unfold execCommitCheckStageEnd at h
  split at h
  · rename_i b w ho
    obtain ⟨hlatch, -, -, htarget⟩ := hs.operation _ ho
    obtain rfl := Host.Outcome.next.inj h
    refine ⟨s, .of_unmarked ho (StoreOp.commit_unmarked b w _), ?_⟩
    split
    · exact .begins ⟨rfl, rfl, rfl⟩ (.commitCell w (.erased _) .blank (hs.commit b w _ ho)) htarget trivial
        rfl rfl hlatch
    · exact (State.goesOn_complete _ _).of_like (s.setLastCheck_like _)
  · cases h

theorem execPointerWriteStart_store {s t : State} (hs : s.StoreInv)
    (h : execPointerWriteStart s = .next t) : ∃ u, s.StageEnd u ∧ u.GoesOn t := by
  unfold execPointerWriteStart at h
  split at h
  · rename_i b w x ho
    obtain ⟨hlatch, -, -, htarget⟩ := hs.operation _ ho
    obtain rfl := Host.Outcome.next.inj h
    exact ⟨s, .of_unmarked ho (StoreOp.commit_unmarked b w _),
      .begins ⟨rfl, rfl, rfl⟩ (.commitCell w (.writing _) .writing (hs.commit b w _ ho)) htarget ⟨rfl, rfl⟩
        rfl rfl hlatch⟩
  · cases h

/-- POINTER_VERIFY puts the bank in service, or completes the commit with VERIFY_FAIL (R157, R158). -/
theorem execPointerVerify_store {s t : State} {q : PointerRecord} (h : execPointerVerify q s = .next t) :
    (∃ b w r x, s.ts.op = some (.commit b w (.writing r)) ∧ (s.nv.bank r.bank).header = .valid x
        ∧ t = (s.switchTo r x).complete .ok)
      ∨ ∃ u, s.StageEnd u ∧ u.GoesOn t := by
  unfold execPointerVerify at h
  split at h
  · rename_i b w r ho
    split at h
    · split at h
      · rename_i x hx
        exact .inl ⟨b, w, r, x, ho, hx, (Host.Outcome.next.inj h).symm⟩
      · cases h
    · obtain rfl := Host.Outcome.next.inj h
      exact .inr ⟨s, .of_unmarked ho (StoreOp.commit_unmarked b w _), s.goesOn_complete _⟩
  · cases h

end Sys2Proof.Machine
end

section
/-! PROOFS. What a read of a running erase, and the loss of power or a reset, make of the banks (R126, R149,
R150), and the laws of the store over these events. -/

namespace Sys2Proof.Machine

/-! ### A running erase -/

/-- What a running erase has made of a bank at a draw: nothing, some slots of the segment BLANK, or the header
BLANK (R126). -/
theorem State.eraseProgress_bank_cases (s : State) (b : BankId) :
    s.eraseProgress.nv.bank b = s.nv.bank b
      ∨ (∃ (n : SegmentNo) (cleared : SlotNo → Bool), s.ts.op.bind StoreOp.erasing = some (b, some n)
          ∧ (∀ i, cleared i = true → segmentOf i = n)
          ∧ s.eraseProgress.nv.bank b
              = { s.nv.bank b with slots := SlotMap.clear (s.nv.bank b).slots cleared })
      ∨ (s.ts.op.bind StoreOp.erasing = some (b, none)
          ∧ s.eraseProgress.nv.bank b = (s.nv.bank b).setHeader .blank) := by
  unfold State.eraseProgress
  split
  · rename_i c n he
    simp only [State.mapBank_nv, Nonvolatile.bank_mapBank]
    split
    · subst_vars
      refine .inr (.inl ⟨n, fun i => decide (segmentOf i = n) && Config.slotCleared s.draws i.val, he,
        fun i hi => ?_, rfl⟩)
      simp only [Bool.and_eq_true, decide_eq_true_eq] at hi
      exact hi.1
    · exact .inl rfl
  · rename_i c he
    simp only [State.mapBank_nv, Nonvolatile.bank_mapBank]
    split
    · subst_vars
      cases Config.headerCleared s.draws
      · exact .inl rfl
      · exact .inr (.inr ⟨he, rfl⟩)
    · exact .inl rfl
  · exact .inl rfl

/-- A bank in which a running erase, `erasing`, has cleared some of what it clears (R126, R150). -/
structure Bank.Drawn (b : BankId) (erasing : Option (BankId × Option SegmentNo)) (k k' : Bank) : Prop where
  segments : k'.segments = k.segments
  locks : k'.locks = k.locks
  header : k'.header = k.header ∨ (k'.header = .blank ∧ erasing = some (b, none))
  slots : ∀ n, k'.slot n = k.slot n ∨ (k'.slot n = .blank ∧ erasing = some (b, some (segmentOf n)))

theorem Bank.Drawn.refl (b : BankId) (erasing : Option (BankId × Option SegmentNo)) (k : Bank) :
    Bank.Drawn b erasing k k := ⟨rfl, rfl, .inl rfl, fun _ => .inl rfl⟩

/-- A read of a running erase changes nothing but what the erase clears. -/
theorem State.eraseProgress_drawn (s : State) (b : BankId) :
    Bank.Drawn b (s.ts.op.bind StoreOp.erasing) (s.nv.bank b) (s.eraseProgress.nv.bank b) := by
  rcases s.eraseProgress_bank_cases b with h | ⟨n, cleared, he, hcleared, h⟩ | ⟨he, h⟩ <;> rw [h]
  · exact .refl b _ _
  · refine ⟨rfl, rfl, .inl rfl, fun i => ?_⟩
    rw [Bank.slot_clear]
    split
    · rename_i hi
      exact .inr ⟨rfl, by rw [he, hcleared i hi]⟩
    · exact .inl rfl
  · exact ⟨rfl, rfl, .inr ⟨rfl, he⟩, fun i => .inl rfl⟩

/-- A read of a running erase leaves both banks sound. -/
theorem State.BankLaw.eraseProgress {s : State} (h : s.BankLaw) : s.eraseProgress.BankLaw := by
  intro b
  rcases s.eraseProgress_bank_cases b with hb | ⟨n, cleared, -, -, hb⟩ | ⟨-, hb⟩ <;> rw [hb]
  · exact h b
  · exact (h b).clear cleared
  · exact (h b).setHeader (by simp)

@[simp] theorem State.eraseProgress_ts (s : State) : s.eraseProgress.ts = s.ts := by
  rw [s.eraseProgress_frame.1]

@[simp] theorem State.eraseProgress_pins (s : State) : s.eraseProgress.pins = s.pins := by
  rw [s.eraseProgress_frame.1]

theorem State.eraseProgress_sameStage (s : State) : s.SameStage s.eraseProgress :=
  ⟨by rw [s.eraseProgress_ts], by rw [s.eraseProgress_ts],
    by simp only [State.outOfReset, s.eraseProgress_pins]⟩

@[simp] theorem State.eraseProgress_cell (s : State) (c : CellId) :
    s.eraseProgress.nv.cell c = s.nv.cell c := by
  obtain ⟨-, h0, h1⟩ := s.eraseProgress_frame
  cases c
  · exact h0
  · exact h1

/-- The bank an erase in flight clears is the standby bank; the other bank is as it was (R123). -/
theorem State.StoreInv.eraseProgress_bank_active {s : State} (h : s.StoreInv) {v : Service}
    (hv : s.ts.mode = .running v) : s.eraseProgress.nv.bank v.active = s.nv.bank v.active := by
  have standby : ∀ x, s.ts.op.bind StoreOp.erasing = some (v.active, x) → False := by
    intro x hx
    obtain ⟨op, hop, he⟩ := Option.bind_eq_some_iff.1 hx
    obtain ⟨-, -, -, htarget⟩ := h.operation op hop
    have hb : op.target = some v.active := by
      cases x with
      | none => obtain ⟨o, rfl⟩ := StoreOp.erasing_none.1 he; rfl
      | some n => exact StoreOp.target_of_erases (StoreOp.erasing_some.1 he)
    have := htarget _ hb
    rw [hv] at this
    exact otherBank_ne v.active this.symm
  rcases s.eraseProgress_bank_cases v.active with hb | ⟨_, _, he, -⟩ | ⟨he, -⟩
  · exact hb
  · exact (standby _ he).elim
  · exact (standby _ he).elim

/-- With an erase in flight a read keeps the laws of the store. -/
theorem State.StoreInv.eraseProgress {s : State} (h : s.StoreInv) (hl : s.Live) : s.eraseProgress.StoreInv := by
  cases he : s.ts.op.bind StoreOp.erasing with
  | none => rw [State.eraseProgress_idle he]; exact h
  | some x =>
    obtain ⟨op, hop, hx⟩ := Option.bind_eq_some_iff.1 he
    obtain ⟨hlatch, -, hsound, htarget⟩ := h.operation op hop
    have same := s.eraseProgress_sameStage
    have drawn := s.eraseProgress_drawn
    have hwrites : ∀ b n, op.writes b n = false := by
      intro b n
      cases op with
      | programStage | copySegment => cases hx
      | _ => rfl
    refine State.StoreInv.of_op (op := op) (same.live hl) (by simpa using hop) (by simpa using hlatch)
      h.banks.eraseProgress (by simpa only [State.StagingLaw, State.eraseProgress_ts] using h.staging) ?_
      (by simpa using hsound) (by simpa using htarget) ?_ ?_ ?_ ?_ ?_ ?_
    · intro v hv
      rw [State.eraseProgress_ts] at hv
      rw [h.eraseProgress_bank_active hv, State.eraseProgress_cell]
      exact h.service v hv
    · rintro b w stage rfl
      cases hx
    · intro b n
      rw [hwrites]
      rcases (drawn b).slots n with hn | ⟨hn, -⟩
      · rw [hn, h.slot_programming_iff hop, hwrites]
      · rw [hn]; simp
    · intro b
      rcases (drawn b).header with hb | ⟨hb, hbe⟩
      · rw [hb, h.header_programming_iff hop]
      · rw [hb]
        rw [he] at hbe
        obtain rfl := Option.some.inj hbe
        obtain ⟨o, rfl⟩ := StoreOp.erasing_none.1 hx
        simp [StoreOp.writesHeader]
    · intro b n
      rw [(drawn b).segments, h.segment_erasing_iff hop]
    · refine (op.sparesLocks_congr ?_ (by simp)).2 (h.locks.1 op hop)
      funext b n
      simp only [State.locked, (drawn b).locks]
    · cases op with
      | programStage | copySegment => cases hx
      | _ => trivial

/-! ### Power and RESET_N -/

/-- The commands that switch power or RESET_N. -/
def isPowerEvent : Instr → Bool
  | .powerOn .. | .powerFail | .resetNFall | .resetNRelease .. => true
  | _ => false

/-- The law of reset of a part held in reset or without power (R161). -/
theorem State.resetLaw_held {t : State} (hq : t.Quiescent) (hts : t.ts = .powerOn)
    (hawaits : t.urAwaitsHigh = false ∧ t.drAwaitsHigh = false) (hout : t.outOfReset = false) :
    t.ResetLaw := by
  refine ⟨fun _ => ⟨hq, hts, hawaits⟩, fun _ => ⟨hq, ?_⟩, fun h => ?_⟩
  · rw [hts]; exact ⟨rfl, rfl, rfl⟩
  · rw [hout] at h; cases h

/-- The law of reset in STARTING, a stage of start-up in progress (R162). -/
theorem State.resetLaw_starting {t : State} (hq : t.Quiescent) (hmode : t.ts.mode = .starting)
    (hstage : t.ts.startUp ≠ .idle) (hop : t.ts.op = none) (hstaging : t.ts.staging = .empty)
    (hcheck : t.ts.lastCheck = none) (hout : t.outOfReset = true) : t.ResetLaw := by
  refine ⟨fun h => ?_, fun _ => ⟨hq, hop, hstaging, hcheck⟩, fun _ => ?_⟩
  · rw [hout] at h; cases h
  · simp [hmode, hstage]

/-- A part as power or RESET_N leaves it: held in reset or without power, or with the start-up scan begun. -/
structure State.Interrupted (t : State) : Prop where
  reset : t.ResetLaw
  starting : t.ts.mode = .starting
  scanning : t.outOfReset = true → t.ts.startUp = .scanning

theorem State.interrupted_held {t : State} (hq : t.Quiescent) (hts : t.ts = .powerOn)
    (hawaits : t.urAwaitsHigh = false ∧ t.drAwaitsHigh = false) (hout : t.outOfReset = false) :
    t.Interrupted :=
  ⟨State.resetLaw_held hq hts hawaits hout, by rw [hts]; rfl, fun ho => by rw [hout] at ho; cases ho⟩

theorem State.interrupted_scanning {t : State} (hq : t.Quiescent)
    (hts : t.ts = { Store.powerOn with startUp := .scanning }) (hout : t.outOfReset = true) :
    t.Interrupted := by
  refine ⟨State.resetLaw_starting hq ?_ ?_ ?_ ?_ ?_ hout, ?_, fun _ => ?_⟩ <;> rw [hts]
  · rfl
  · simp
  all_goals rfl

theorem State.volatileReset_quiescent (s : State) : s.volatileReset.Quiescent :=
  ⟨⟨rfl, rfl⟩, ⟨rfl, rfl, rfl⟩, rfl, rfl, rfl⟩

/-- What a power event or an edge of RESET_N does: the memory changes in nothing but a running erase, and
everything volatile is lost (R149, R150, R161). -/
theorem exec_powerEvent {c : Instr} {s t : State} (hc : isPowerEvent c = true) (h : exec c s = .next t) :
    (t.nv = s.nv ∨ t.nv = s.eraseProgress.nv) ∧ (s.ResetLaw → t.Interrupted) := by
  have unpowered : s.ResetLaw → s.pins.powered = false → s.Quiescent ∧ s.ts = .powerOn
      ∧ s.urAwaitsHigh = false ∧ s.drAwaitsHigh = false :=
    fun hs hp => hs.1 (by simp [State.outOfReset, hp])
  have hreset := s.volatileReset_quiescent
  have herased := s.eraseProgress.volatileReset_quiescent
  cases c with
  | powerOn rate madr =>
    change execPowerOn rate madr s = _ at h
    unfold execPowerOn at h
    split at h
    · cases h
    · obtain rfl := Host.Outcome.next.inj h
      split
      · rename_i hr
        exact ⟨.inl rfl, fun _ => State.interrupted_scanning { hreset with } rfl
          (by simp [State.outOfReset, hr])⟩
      · rename_i hr
        exact ⟨.inl rfl, fun _ => State.interrupted_held { hreset with } rfl ⟨rfl, rfl⟩
          (by simpa [State.outOfReset] using hr)⟩
  | powerFail =>
    change execPowerFail s = _ at h
    unfold execPowerFail at h
    split at h
    · obtain rfl := Host.Outcome.next.inj h
      exact ⟨.inr rfl, fun _ => State.interrupted_held { herased with } rfl ⟨rfl, rfl⟩
        (by simp [State.outOfReset])⟩
    · cases h
  | resetNFall =>
    change execResetNFall s = _ at h
    unfold execResetNFall at h
    split at h
    · obtain rfl := Host.Outcome.next.inj h
      split
      · exact ⟨.inr rfl, fun _ => State.interrupted_held { herased with } rfl ⟨rfl, rfl⟩
          (by simp [State.outOfReset])⟩
      · rename_i hp
        refine ⟨.inl rfl, fun hs => ?_⟩
        obtain ⟨hq, hts, hawaits⟩ := unpowered hs (by simpa using hp)
        exact State.interrupted_held { hq with } hts hawaits (by simp [State.outOfReset])
    · cases h
  | resetNRelease rate madr =>
    change execResetNRelease rate madr s = _ at h
    unfold execResetNRelease at h
    split at h
    · cases h
    · obtain rfl := Host.Outcome.next.inj h
      split
      · rename_i hp
        exact ⟨.inl rfl, fun _ => State.interrupted_scanning { hreset with } rfl
          (by simp [State.outOfReset, hp])⟩
      · rename_i hp
        refine ⟨.inl rfl, fun hs => ?_⟩
        obtain ⟨hq, hts, hawaits⟩ := unpowered hs (by simpa using hp)
        exact State.interrupted_held { hq with } hts hawaits (by simp [State.outOfReset, hp])
  | _ => cases hc

/-- Settles O6: an interruption leaves the banks as they were, or as the erase it interrupts left them. -/
theorem interruptionKeepsTheBanks : Obligations.InterruptionKeepsTheBanks := by
  refine ⟨fun s t c b hc h => ?_, fun s => ⟨fun hp => ⟨_, if_pos hp⟩, fun hr => ⟨_, if_pos hr⟩⟩⟩
  have hpower : isPowerEvent c = true := by
    rcases hc with rfl | rfl | ⟨r, m, rfl⟩ | ⟨r, m, rfl⟩ <;> rfl
  obtain ⟨hdrawn, h0, h1⟩ : Bank.Drawn b (s.ts.op.bind StoreOp.erasing) (s.nv.bank b) (t.nv.bank b)
      ∧ t.nv.cell0 = s.nv.cell0 ∧ t.nv.cell1 = s.nv.cell1 := by
    rcases (exec_powerEvent hpower h).1 with hnv | hnv <;> rw [hnv]
    · exact ⟨.refl b _ _, rfl, rfl⟩
    · exact ⟨s.eraseProgress_drawn b, s.eraseProgress_frame.2⟩
  exact ⟨h0, h1, hdrawn.segments, hdrawn.locks, hdrawn.header, hdrawn.slots⟩

/-- Through power and reset the laws of the store are kept: what is volatile is gone, and the memory holds at
most the marks that the interrupted operation made (R28). -/
theorem State.StoreInv.interrupted {s t : State} (hs : s.StoreInv)
    (hnv : t.nv = s.nv ∨ t.nv = s.eraseProgress.nv) (ht : t.Interrupted) : t.StoreInv := by
  obtain ⟨hr, hmode, hscan⟩ := ht
  obtain ⟨-, hop, hstaging, -⟩ := hr.2.1 hmode
  have hdrawn : ∀ b, Bank.Drawn b (s.ts.op.bind StoreOp.erasing) (s.nv.bank b) (t.nv.bank b) := by
    intro b
    rcases hnv with h | h <;> rw [h]
    · exact .refl b _ _
    · exact s.eraseProgress_drawn b
  refine ⟨hr, ?_, ?_, ?_, ?_, ?_, fun ho hns => absurd (hscan ho) hns, ⟨?_, fun b k hlocked hp => ?_⟩, ?_⟩
  · rcases hnv with h | h
    · simpa only [State.BankLaw, h] using hs.banks
    · simpa only [State.BankLaw, h] using hs.banks.eraseProgress
  · rw [State.StagingLaw, hstaging]; trivial
  · intro v hv; rw [hmode] at hv; cases hv
  · intro op ho; rw [hop] at ho; cases ho
  · intro b w stage ho; rw [hop] at ho; cases ho
  · intro op ho; rw [hop] at ho; cases ho
  · rw [State.locked, (hdrawn b).locks] at hlocked
    rcases (hdrawn b).slots k with hk | ⟨hk, -⟩
    · rw [hk] at hp
      exact hs.locks.2 b k hlocked hp
    · rw [hk] at hp; cases hp
  · intro op ho; rw [hop] at ho; cases ho

end Sys2Proof.Machine
end

section
/-! PROOFS. Everything a command can do to the store, said once (`StoreMove`), and the laws of the store kept
by every step. -/

namespace Sys2Proof.Machine

/-! ### A part that takes nothing -/

/-- The commands of the store's stages and of start-up. -/
def isStageEvent : Instr → Bool
  | .startUpScan | .pointerSelection | .elementWriteEnd _ | .segmentEraseEnd | .headerEraseEnd | .lockWriteEnd
  | .checkBankComplete | .commitCheckStageEnd | .pointerWriteStart | .pointerVerify _ => true
  | _ => false

/-- The wait of a receiver for its pin is no part of what is quiescent. -/
theorem State.Quiescent.setAwaitsHigh {s : State} (h : s.Quiescent) (b : Bool) (line : Line) :
    (s.setAwaitsHigh b line).Quiescent := by
  cases line <;> exact { h with }

/-- A quiescent part that does not listen stays so under every event of the lines and the timers, and in reset
no receiver comes to wait for its pin (R15, R22). -/
theorem exec_of_quiescent {c : Instr} {s t : State} (hq : s.Quiescent) (hl : s.listening = false)
    (hp : isPowerEvent c = false) (hc : isStageEvent c = false) (h : exec c s = .next t) :
    t.Quiescent ∧ (s.outOfReset = false →
      t.urAwaitsHigh = s.urAwaitsHigh ∧ t.drAwaitsHigh = s.drAwaitsHigh) := by
  have ⟨⟨hur, hdr⟩, ⟨hut, _, hdt⟩, htt, hrt, hme⟩ := hq
  have hreceiver : ∀ line, s.receiver line = .hunt := by
    intro line
    cases line
    · exact hur
    · exact hdr
  have htag : ∀ g, s.tag g = .quiet := by
    intro g
    rw [State.tag, htt]
    exact get_replicate _ _
  have recognising : ∀ fall, s.recognises fall = true → s.outOfReset = true := by
    intro fall hf
    simp only [State.recognises, Bool.and_eq_true] at hf
    exact hf.1
  cases c with
  | character fall byte lead keysw =>
    obtain rfl := Host.Outcome.next.inj h
    have hkey : (s.withKey keysw).Quiescent := { hq with }
    split
    · rename_i hf
      simp only [hl]
      refine ⟨hkey.setAwaitsHigh false fall.line, fun ho => ?_⟩
      rw [recognising fall hf] at ho; cases ho
    · exact ⟨hkey, fun _ => ⟨rfl, rfl⟩⟩
  | characterError fall =>
    obtain rfl := Host.Outcome.next.inj h
    split
    · rename_i hf
      simp only [hl]
      refine ⟨hq.setAwaitsHigh true fall.line, fun ho => ?_⟩
      rw [recognising fall hf] at ho; cases ho
    · exact ⟨hq, fun _ => ⟨rfl, rfl⟩⟩
  | startBit fall =>
    obtain rfl := Host.Outcome.next.inj h
    split
    · rename_i hf
      have hunt : (s.setAwaitsHigh false fall.line).receiver fall.line = .hunt := by
        rw [State.setAwaitsHigh_receiver, hreceiver]
      rw [hreceiver, show Receiver.startBit .hunt = .hunt from rfl, State.setReceiver_self hunt]
      refine ⟨hq.setAwaitsHigh false fall.line, fun ho => ?_⟩
      rw [recognising fall hf] at ho; cases ho
    · exact ⟨hq, fun _ => ⟨rfl, rfl⟩⟩
  | gapTimerExpiry line =>
    simp [exec, execGapTimerExpiry, hreceiver, Receiver.gapTimer] at h
  | utTake =>
    simp only [exec, execUtTake, hut, hrt, ReturnPath.empty, settled, State.settleRestart, hme, Engine.powerOn,
      reduceCtorEq, if_false] at h
    obtain rfl := Host.Outcome.next.inj h
    exact ⟨hq, fun _ => ⟨rfl, rfl⟩⟩
  | uplineFrameSent => simp [exec, execUplineFrameSent, hut] at h
  | dtTake =>
    simp only [exec, execDtTake, hdt, htt, Tracker.powerOn] at h
    obtain rfl := Host.Outcome.next.inj h
    exact ⟨hq, fun _ => ⟨rfl, rfl⟩⟩
  | downlineFrameSent => simp [exec, execDownlineFrameSent, hdt] at h
  | replyTimerExpiry g => simp [exec, execReplyTimerExpiry, htag] at h
  | quarantineExpiry g => simp [exec, execQuarantineExpiry, htag] at h
  | quietPeriodExpiry => simp [exec, execQuietPeriodExpiry, htt, Tracker.powerOn] at h
  | powerOn | powerFail | resetNFall | resetNRelease => cases hp
  | _ => cases hc

/-- The law of reset follows the store's view of the part, and its quiescence. -/
theorem State.ResetLaw.of_view {s t : State} (h : s.ResetLaw) (hv : t.storeView = s.storeView)
    (hq : s.Quiescent → s.listening = false → t.Quiescent ∧ (s.outOfReset = false →
      t.urAwaitsHigh = s.urAwaitsHigh ∧ t.drAwaitsHigh = s.drAwaitsHigh)) : t.ResetLaw := by
  rcases h.live_or_quiescent with hl | ⟨hs, hn, -⟩
  · exact ((State.sameStage_of_view hv).live hl).resetLaw
  · obtain ⟨ht, hawaits⟩ := hq hs hn
    obtain ⟨-, hts, hout⟩ := State.storeView_eq.1 hv
    obtain ⟨hreset, hstarting, hstage⟩ := h
    refine ⟨fun ho => ?_, fun hm => ?_, fun ho => ?_⟩
    · obtain ⟨-, hpower, hu, hd⟩ := hreset (hout ▸ ho)
      obtain ⟨hu', hd'⟩ := hawaits (hout ▸ ho)
      exact ⟨ht, hts.trans hpower, hu'.trans hu, hd'.trans hd⟩
    · rw [hts] at hm ⊢
      exact ⟨ht, (hstarting hm).2⟩
    · rw [hts]; exact hstage (hout ▸ ho)

/-! ### Start-up -/

/-- The store status as the scan leaves it (R162). -/
def State.afterScan (s : State) : Store :=
  if s.nv.bankA.marked || s.nv.bankB.marked then
    { s.ts with faultLatch := true, lastOp := .startUp, lastResult := .interrupted }
  else s.ts

theorem State.scan_eq (s : State) :
    s.scan = { s with
      nv := { s.nv with bankA := s.nv.bankA.scanned, bankB := s.nv.bankB.scanned }
      ts := s.afterScan } := by
  unfold State.scan State.afterScan
  simp only
  split <;> rfl

/-- The scan sets the latch, the last operation and the last result alone (R162). -/
theorem State.afterScan_frame (s : State) :
    s.afterScan.op = s.ts.op ∧ s.afterScan.mode = s.ts.mode ∧ s.afterScan.staging = s.ts.staging
      ∧ s.afterScan.lastCheck = s.ts.lastCheck := by
  unfold State.afterScan
  split <;> exact ⟨rfl, rfl, rfl, rfl⟩

theorem State.scan_bank (s : State) (b : BankId) : s.scan.nv.bank b = (s.nv.bank b).scanned := by
  rw [s.scan_nv]
  cases b <;> rfl

/-- What is true in STARTING with the part out of reset, but for what start-up finds in the memory. -/
structure State.InStarting (s : State) : Prop where
  quiescent : s.Quiescent
  outOfReset : s.outOfReset = true
  mode : s.ts.mode = .starting
  op : s.ts.op = none
  staging : s.ts.staging = .empty
  lastCheck : s.ts.lastCheck = none

/-- A stage of start-up is in progress in STARTING alone, out of reset. -/
theorem State.ResetLaw.inStarting {s : State} (h : s.ResetLaw) (hs : s.ts.startUp ≠ .idle) : s.InStarting := by
  obtain ⟨hreset, hstarting, hstage⟩ := h
  cases ho : s.outOfReset with
  | false =>
    obtain ⟨-, hts, -⟩ := hreset ho
    rw [hts] at hs
    exact absurd rfl hs
  | true =>
    have hmode := (hstage ho).2 hs
    obtain ⟨hq, hop, hstaging, hcheck⟩ := hstarting hmode
    exact ⟨hq, ho, hmode, hop, hstaging, hcheck⟩

/-- After the scan no element carries a mark (R162). -/
theorem State.StoreInv.scan_atRest {s : State} (h : s.StoreInv) (hs : s.InStarting) : s.scan.AtRest := by
  obtain ⟨hop, hmode, hstaging, -⟩ := s.afterScan_frame
  refine ⟨fun b => ?_, ?_, fun v hv => ?_, fun b n => ?_, fun b => ?_, fun b n => ?_⟩
  · rw [s.scan_bank]; exact (h.banks b).scanned
  · rw [State.StagingLaw, s.scan_eq]
    change s.afterScan.staging.Sound
    rw [hstaging, hs.staging]; trivial
  · rw [s.scan_eq] at hv
    change s.afterScan.mode = _ at hv
    rw [hmode, hs.mode] at hv; cases hv
  · rw [s.scan_bank, Bank.slot_scanned]; exact Element.scanned_ne_programming _
  · rw [s.scan_bank]; exact Element.scanned_ne_programming _
  · rw [s.scan_bank, Bank.segment_scanned]; exact SegmentCondition.scanned_ne_erasing _

theorem State.InStarting.scan {s : State} (h : s.InStarting) : s.scan.InStarting := by
  obtain ⟨hop, hmode, hstaging, hcheck⟩ := s.afterScan_frame
  obtain ⟨hq, hout, hmode', hop', hstaging', hcheck'⟩ := h
  rw [s.scan_eq]
  exact ⟨{ hq with }, hout, hmode.trans hmode', hop.trans hop', hstaging.trans hstaging',
    hcheck.trans hcheck'⟩

/-- The store at rest, with the law of reset: what start-up leaves after each of its stages. -/
structure State.Settled (t : State) : Prop where
  rest : t.AtRest
  op : t.ts.op = none
  reset : t.ResetLaw

theorem State.Settled.storeInv {t : State} (h : t.Settled) : t.StoreInv := h.rest.storeInv h.reset h.op

/-- STARTING ends in a mode whose table, if it has one, is in the memory (R164). -/
theorem State.AtRest.endStarting {u : State} (h : u.AtRest) (hs : u.InStarting) {m : Mode} (hm : m ≠ .starting)
    (hservice : (u.endStarting m).ServiceLaw) : (u.endStarting m).Settled := by
  refine ⟨h.of_nv rfl h.staging hservice, hs.op, State.Live.resetLaw ⟨?_, hm, rfl⟩⟩
  exact hs.outOfReset

/-- Pointer selection leaves the store at rest and the memory as it was (R163). -/
theorem State.AtRest.select {u : State} (h : u.AtRest) (hs : u.InStarting) (cells : List CellId) :
    (u.select cells).Settled ∧ (u.select cells).nv = u.nv := by
  obtain ⟨hq, hout, hmode, hop, hstaging, hcheck⟩ := hs
  rcases u.select_cases cells with ⟨x, xop, xmode, xstaging, xcheck, hx⟩
    | ⟨x, c, rest, r, y, xop, xmode, xstaging, xcheck, xstage, -, -, hx⟩
  · rw [hx]
    refine ⟨State.AtRest.endStarting (u := { u with ts := x }) (h.of_same rfl xmode ?_)
      ⟨{ hq with }, hout, xmode.trans hmode, xop.trans hop, xstaging.trans hstaging,
        xcheck.trans hcheck⟩ (by simp) (fun v hv => by cases hv), rfl⟩
    change x.staging.Sound
    rw [xstaging]; exact h.staging
  · rw [hx]
    refine ⟨⟨h.of_same rfl xmode ?_, xop.trans hop, State.resetLaw_starting { hq with }
      (xmode.trans hmode) ?_ (xop.trans hop) (xstaging.trans hstaging) (xcheck.trans hcheck) hout⟩, rfl⟩
    · change x.staging.Sound
      rw [xstaging]; exact h.staging
    · change x.startUp ≠ .idle
      rw [xstage]; simp

/-- The header and the record of a candidate that is put in service (R163). -/
theorem State.verified_some {s : State} {c : CellId} {v : Service} (h : s.verified c = some v) :
    ∃ r x, s.nv.cell c = .valid r ∧ (s.nv.bank r.bank).header = .valid x
      ∧ v = { active := r.bank, cell := c, generation := r.generation, header := x } := by
  unfold State.verified at h
  split at h
  · rename_i r hc
    split at h
    · rename_i x hx
      split at h
      · exact ⟨r, x, hc, hx, (Option.some.inj h).symm⟩
      · cases h
    · cases h
  · cases h

/-- What the two events of start-up do to the store (R162 to R164). -/
theorem exec_startUp {c : Instr} {s t : State} (hc : c = .startUpScan ∨ c = .pointerSelection)
    (hs : s.StoreInv) (h : exec c s = .next t) :
    s.ts.mode = .starting ∧ (t.nv = s.nv ∨ ∀ b, t.nv.bank b = (s.nv.bank b).scanned) ∧ t.Settled := by
  rcases hc with rfl | rfl
  · change execStartUpScan s = _ at h
    unfold execStartUpScan at h
    split at h
    · rename_i hst
      obtain rfl := Host.Outcome.next.inj h
      have hin := hs.reset.inStarting (by rw [hst]; simp)
      obtain ⟨hsettled, hnv⟩ := (hs.scan_atRest hin).select hin.scan s.nv.candidates
      exact ⟨hin.mode, .inr fun b => by rw [hnv, s.scan_bank], hsettled⟩
    · cases h
  · change execPointerSelection s = _ at h
    unfold execPointerSelection at h
    split at h
    · rename_i c untried hst
      have hin := hs.reset.inStarting (by rw [hst]; simp)
      have hrest : s.AtRest := hs.atRest hin.outOfReset (by rw [hst]; simp) fun op ho => by
        rw [hin.op] at ho; cases ho
      split at h
      · rename_i v hv
        obtain rfl := Host.Outcome.next.inj h
        refine ⟨hin.mode, .inl rfl, hrest.endStarting hin (by simp) fun w hw => ?_⟩
        obtain rfl := Mode.running.inj hw
        obtain ⟨r, x, hcell, hheader, rfl⟩ := State.verified_some hv
        exact ⟨hheader, r.check, hcell⟩
      · obtain rfl := Host.Outcome.next.inj h
        obtain ⟨hq, hout, hmode, hop, hstaging, hcheck⟩ := hin
        have hrest' : (s.startUpFault .activeCheckFail).AtRest := hrest.of_same rfl rfl hrest.staging
        obtain ⟨hsettled, hnv⟩ := hrest'.select
          ⟨{ hq with }, hout, hmode, hop, hstaging, hcheck⟩ untried
        exact ⟨hmode, .inl hnv, hsettled⟩
    · cases h

/-! ### Everything a command can do to the store -/

/-- What the command `c` does to the store of `s`, as far as its laws speak of it. -/
inductive State.StoreMove (s : State) (c : Instr) (t : State) : Prop
  /-- Nothing. -/
  | unchanged (hview : t.storeView = s.storeView) (hr : t.ResetLaw)
  /-- A read draws what the cells under a running erase hold (R126). -/
  | drawn {u : State} (hl : s.Live) (hu : u.storeView = s.storeView)
      (hview : t.storeView = u.eraseProgress.storeView)
  /-- The stage in flight ends, if there is one, and the store goes on or rests. -/
  | stage {u u' : State} (hl : s.Live) (hend : s.StageEnd u) (hgo : u.GoesOn u')
      (hview : t.storeView = u'.storeView)
  /-- A commit puts the standby bank in service (R158). -/
  | switched {b : BankId} {w : Word} {r : PointerRecord} {x : Header} (hl : s.Live)
      (hc : ∃ q, c = .pointerVerify q) (ho : s.ts.op = some (.commit b w (.writing r)))
      (hheader : (s.nv.bank r.bank).header = .valid x) (ht : t = (s.switchTo r x).complete .ok)
  /-- Power or RESET_N interrupts (R149, R161). -/
  | interrupted (hnv : t.nv = s.nv ∨ t.nv = s.eraseProgress.nv) (ht : t.Interrupted)
  /-- A stage of start-up ends (R162 to R164). -/
  | startUp (hmode : s.ts.mode = .starting) (hbanks : t.nv = s.nv ∨ ∀ b, t.nv.bank b = (s.nv.bank b).scanned)
      (ht : t.Settled)

/-- A management command does what the store's commands do. -/
theorem State.StoreMove.of_runsCommand {s t : State} {c : Instr} (hs : s.StoreInv) (hl : s.Live)
    (h : s.RunsCommand t) : s.StoreMove c t := by
  obtain ⟨u, f, cmd, hu, ht⟩ := h
  have same := State.sameStage_of_view hu
  obtain ⟨hnv, hts, -⟩ := State.storeView_eq.1 hu
  have hul := same.live hl
  rcases Command.run_store (hs.of_view hu hul.resetLaw) f cmd with h | h | ⟨ho, h⟩
  · have hview := (ht.trans h).trans hu
    exact .unchanged hview ((State.sameStage_of_view hview).live hl).resetLaw
  · exact .drawn hl hu (by rw [ht, h])
  · refine .stage hl (.still fun op hop => ?_) (h.of_like ⟨same, hnv, congrArg _ hts, congrArg _ hts⟩) ht
    rw [hts] at ho
    rw [ho] at hop; cases hop

/-- With no operation in flight no stage of one ends. -/
theorem exec_stageEvent_op {c : Instr} {s t : State} (hc : isStageEvent c = true)
    (hstart : ¬ (c = .startUpScan ∨ c = .pointerSelection)) (h : exec c s = .next t) : s.ts.op ≠ none := by
  intro ho
  cases c with
  | startUpScan => exact hstart (.inl rfl)
  | pointerSelection => exact hstart (.inr rfl)
  | elementWriteEnd image => simp [exec, execElementWriteEnd, ho] at h
  | segmentEraseEnd => simp [exec, execSegmentEraseEnd, ho] at h
  | headerEraseEnd => simp [exec, execHeaderEraseEnd, ho] at h
  | lockWriteEnd => simp [exec, execLockWriteEnd, ho] at h
  | checkBankComplete => simp [exec, execCheckBankComplete, ho] at h
  | commitCheckStageEnd => simp [exec, execCommitCheckStageEnd, ho] at h
  | pointerWriteStart => simp [exec, execPointerWriteStart, ho] at h
  | pointerVerify q => simp [exec, execPointerVerify, ho] at h
  | _ => cases hc

/-- The end of a stage is a move of the store. -/
theorem exec_stageEvent {c : Instr} {s t : State} (hc : isStageEvent c = true) (hs : s.StoreInv)
    (h : exec c s = .next t) : s.StoreMove c t := by
  by_cases hstart : c = .startUpScan ∨ c = .pointerSelection
  · obtain ⟨hmode, hbanks, ht⟩ := exec_startUp hstart hs h
    exact .startUp hmode hbanks ht
  · obtain ⟨op, hop⟩ := Option.ne_none_iff_exists'.1 (exec_stageEvent_op hc hstart h)
    have hl := hs.live_of_op hop
    have ended : (∃ u, s.StageEnd u ∧ u.GoesOn t) → s.StoreMove c t :=
      fun ⟨_, hend, hgo⟩ => .stage hl hend hgo rfl
    cases c with
    | elementWriteEnd image => exact ended (execElementWriteEnd_store hs h)
    | segmentEraseEnd => exact ended (execSegmentEraseEnd_store hs h)
    | headerEraseEnd => exact ended (execHeaderEraseEnd_store hs h)
    | lockWriteEnd => exact ended (execLockWriteEnd_store h)
    | checkBankComplete => exact ended (execCheckBankComplete_store h)
    | commitCheckStageEnd => exact ended (execCommitCheckStageEnd_store hs h)
    | pointerWriteStart => exact ended (execPointerWriteStart_store hs h)
    | pointerVerify q =>
      rcases execPointerVerify_store h with ⟨b, w, r, x, ho, hx, ht⟩ | hu
      · exact .switched hl ⟨q, rfl⟩ ho hx ht
      · exact ended hu
    | startUpScan | pointerSelection => simp at hstart
    | _ => cases hc

/-- An event of the lines or the timers leaves the store alone, or runs a management command in a part that
listens. -/
theorem exec_lineEvent {c : Instr} {s t : State} (hp : isPowerEvent c = false) (hc : isStageEvent c = false)
    (h : exec c s = .next t) : t.storeView = s.storeView ∨ s.listening = true ∧ s.RunsCommand t := by
  cases c with
  | character fall byte lead keysw => exact execCharacter_storeView h
  | characterError fall => exact .inl (execCharacterError_storeView h)
  | gapTimerExpiry line => exact .inl (execGapTimerExpiry_storeView h)
  | utTake => exact .inl (execUtTake_storeView h)
  | uplineFrameSent => exact .inl (execUplineFrameSent_storeView h)
  | dtTake => exact .inl (execDtTake_storeView h)
  | downlineFrameSent => exact .inl (execDownlineFrameSent_storeView h)
  | replyTimerExpiry g => exact .inl (execReplyTimerExpiry_storeView h)
  | quarantineExpiry g => exact .inl (execQuarantineExpiry_storeView h)
  | quietPeriodExpiry => exact .inl (execQuietPeriodExpiry_storeView h)
  | startBit fall => exact .inl (execStartBit_storeView h)
  | powerOn | powerFail | resetNFall | resetNRelease => cases hp
  | _ => cases hc

/-- Every command makes one of the moves of the store. -/
theorem exec_storeMove {c : Instr} {s t : State} (hs : s.StoreInv) (h : exec c s = .next t) :
    s.StoreMove c t := by
  cases hp : isPowerEvent c with
  | true =>
    obtain ⟨hnv, ht⟩ := exec_powerEvent hp h
    exact .interrupted hnv (ht hs.reset)
  | false =>
    cases hc : isStageEvent c with
    | true => exact exec_stageEvent hc hs h
    | false =>
      rcases exec_lineEvent hp hc h with hview | ⟨hlisten, hrun⟩
      · exact .unchanged hview (hs.reset.of_view hview fun hq hl => exec_of_quiescent hq hl hp hc h)
      · exact .of_runsCommand hs (hs.reset.live_of_listening hlisten) hrun

/-! ### The invariant -/

/-- What follows on the end of a stage keeps the laws of the store. -/
theorem State.GoesOn.storeInv {u t : State} (h : u.GoesOn t) (hu : u.AtRest) (hl : u.Live) : t.StoreInv := by
  cases h with
  | rests same hnv hop hstaging =>
    exact (hu.of_same hnv same.mode (hstaging hu.staging)).storeInv (same.live hl).resetLaw hop
  | begins same hbegins htarget hsound hop hstaging hlatch =>
    exact hbegins.storeInv hu hl same htarget hsound hop hstaging hlatch

/-- The switch of a commit puts in service what the memory holds (R158). -/
theorem State.StoreInv.switched {s : State} (hs : s.StoreInv) (hl : s.Live) {b : BankId} {w : Word}
    {r : PointerRecord} {x : Header} (ho : s.ts.op = some (.commit b w (.writing r)))
    (hheader : (s.nv.bank r.bank).header = .valid x) : ((s.switchTo r x).complete .ok).StoreInv := by
  have hrest : s.AtRest := hs.atRest hl.outOfReset (by simp [hl.idle]) fun op hop => by
    rw [ho] at hop; cases hop; exact StoreOp.commit_unmarked b w _
  have hbank : ∀ c, ((s.switchTo r x).complete .ok).nv.bank c = s.nv.bank c := fun c => by simp
  refine State.AtRest.storeInv ⟨fun c => ?_, hrest.staging, fun v hv => ?_, fun c n => ?_, fun c => ?_,
    fun c n => ?_⟩ (State.Live.resetLaw ⟨hl.outOfReset, ?_, hl.idle⟩) rfl
  · rw [hbank]; exact hrest.banks c
  · obtain rfl := Mode.running.inj hv
    refine ⟨by rw [hbank]; exact hheader, r.check, ?_⟩
    simp [Nonvolatile.cell_setCell]
  · rw [hbank]; exact hrest.slots c n
  · rw [hbank]; exact hrest.headers c
  · rw [hbank]; exact hrest.segments c n
  · exact nofun

/-- Every move of the store keeps its laws. -/
theorem State.StoreMove.storeInv {s t : State} {c : Instr} (h : s.StoreMove c t) (hs : s.StoreInv) :
    t.StoreInv := by
  cases h with
  | unchanged hview hr => exact hs.of_view hview hr
  | @drawn u hl hu hview =>
    have hul := (State.sameStage_of_view hu).live hl
    have hdrawn := (hs.of_view hu hul.resetLaw).eraseProgress hul
    exact hdrawn.of_view hview
      ((State.sameStage_of_view hview).live (u.eraseProgress_sameStage.live hul)).resetLaw
  | @stage u u' hl hend hgo hview =>
    have hul := hend.frame.2.live hl
    have hlive : u'.Live := by
      cases hgo with
      | rests same => exact same.live hul
      | begins same => exact same.live hul
    exact (hgo.storeInv (hend.atRest hs hl) hul).of_view hview
      ((State.sameStage_of_view hview).live hlive).resetLaw
  | switched hl hc ho hheader ht => rw [ht]; exact hs.switched hl ho hheader
  | interrupted hnv ht => exact hs.interrupted hnv ht
  | startUp hmode hbanks ht => exact ht.storeInv

/-- A character time that passes leaves a quiescent part quiescent. -/
theorem State.Quiescent.tick {s : State} (h : s.Quiescent) :
    s.tick.Quiescent ∧ s.tick.urAwaitsHigh = s.urAwaitsHigh ∧ s.tick.drAwaitsHigh = s.drAwaitsHigh := by
  obtain ⟨hreceivers, ⟨hut, -, hdt⟩, htt, hrt, hme⟩ := h
  rcases s.tick_cases with ⟨hdue, -⟩ | ⟨-, ht⟩
  · rw [hme] at hdue; cases hdue
  · rw [ht]
    exact ⟨⟨hreceivers, ⟨by simp [hut], rfl, by simp [hdt]⟩, htt, hrt, hme⟩, rfl, rfl⟩

/-- Settles O12: a command makes one of the moves of the store, and a character time none. -/
theorem everyStepKeepsTheStoreLaws : Obligations.EveryStepKeepsTheStoreLaws := by
  intro s t hs h
  unfold step at h
  split at h
  · obtain rfl := Host.Outcome.next.inj h
    exact hs.of_view s.tick_storeView
      (hs.reset.of_view s.tick_storeView fun hq _ => ⟨hq.tick.1, fun _ => hq.tick.2⟩)
  · rename_i c rest _
    have hr : State.ResetLaw { s with pending := rest } := by
      obtain ⟨hreset, hstarting, hstage⟩ := hs.reset
      refine ⟨fun ho => ?_, fun hm => ?_, hstage⟩
      · obtain ⟨hq, hts⟩ := hreset ho
        exact ⟨{ hq with }, hts⟩
      · obtain ⟨hq, hts⟩ := hstarting hm
        exact ⟨{ hq with }, hts⟩
    have hs' := hs.of_view (t := { s with pending := rest }) rfl hr
    exact (exec_storeMove hs' h).storeInv hs'

end Sys2Proof.Machine
end

section
/-! PROOFS. What the moves of the store leave as it was: the table in service (R123, R158), and every slot but
those that a write or an erase moves (R125, R126, R143). -/

namespace Sys2Proof.Machine

/-! ### The active bank -/

/-- Two banks with the same slots, header and segment conditions: lock flags apart, the same table. -/
structure Bank.SameTable (k k' : Bank) : Prop where
  slots : k'.slots = k.slots
  header : k'.header = k.header
  segments : k'.segments = k.segments

theorem Bank.SameTable.of_eq {k k' : Bank} (h : k' = k) : k.SameTable k' := by subst h; exact ⟨rfl, rfl, rfl⟩

theorem Bank.SameTable.trans {k k' k'' : Bank} (h : k.SameTable k') (h' : k'.SameTable k'') :
    k.SameTable k'' :=
  ⟨h'.slots.trans h.slots, h'.header.trans h.header, h'.segments.trans h.segments⟩

/-- The standby bank is not the active one (R42). -/
theorem Mode.standby_ne_active {m : Mode} {v : Service} (h : m = .running v) : m.standby ≠ v.active := by
  subst h; exact otherBank_ne v.active

/-- A change of the standby bank leaves the active one. -/
theorem Nonvolatile.bank_mapBank_standby (n : Nonvolatile) (f : Bank → Bank) {m : Mode} {v : Service}
    {b : BankId} (hv : m = .running v) (hb : b = m.standby) :
    (n.mapBank f b).bank v.active = n.bank v.active := by
  rw [Nonvolatile.bank_mapBank, if_neg (hb ▸ Mode.standby_ne_active hv)]

/-- The end of a stage leaves the active bank (R123). -/
theorem State.StageEnd.bank_active {s u : State} (h : s.StageEnd u) (hs : s.StoreInv) {v : Service}
    (hv : s.ts.mode = .running v) : u.nv.bank v.active = s.nv.bank v.active := by
  have target : ∀ {op b}, s.ts.op = some op → op.target = some b → b = s.ts.mode.standby :=
    fun ho hb => (hs.operation _ ho).2.2.2 _ hb
  cases h with
  | still => rfl
  | slot ho hw => exact s.nv.bank_mapBank_standby _ hv (target ho (StoreOp.target_of_writes hw))
  | header ho => exact s.nv.bank_mapBank_standby _ hv (target ho rfl)
  | segment _ ho he => exact s.nv.bank_mapBank_standby _ hv (target ho (StoreOp.target_of_erases he))
  | headerErased ho => exact s.nv.bank_mapBank_standby _ hv (target ho rfl)

/-- An operation that begins leaves the table of the active bank (R123, R142). -/
theorem StoreOp.Begins.sameTable {u : State} {op : StoreOp} {n : Nonvolatile} (h : op.Begins u n)
    (htarget : ∀ b ∈ op.target, b = u.ts.mode.standby) {v : Service} (hv : u.ts.mode = .running v) :
    (u.nv.bank v.active).SameTable (n.bank v.active) := by
  cases h with
  | write hw => exact .of_eq (u.nv.bank_mapBank_standby _ hv (htarget _ (StoreOp.target_of_writes hw)))
  | header b h => exact .of_eq (u.nv.bank_mapBank_standby _ hv (htarget _ rfl))
  | erase he => exact .of_eq (u.nv.bank_mapBank_standby _ hv (htarget _ (StoreOp.target_of_erases he)))
  | lock b n =>
    rw [Nonvolatile.bank_mapBank]
    split
    · subst_vars; exact ⟨rfl, rfl, rfl⟩
    · exact .of_eq rfl
  | commitCell => exact .of_eq (Nonvolatile.bank_setCell _ _ _ _)
  | _ => exact .of_eq rfl

/-- What follows on the end of a stage leaves the table of the active bank. -/
theorem State.GoesOn.sameTable {u t : State} (h : u.GoesOn t) {v : Service} (hv : u.ts.mode = .running v) :
    (u.nv.bank v.active).SameTable (t.nv.bank v.active) := by
  cases h with
  | rests same hnv => exact .of_eq (by rw [hnv])
  | begins same hbegins htarget => exact hbegins.sameTable htarget hv

theorem State.GoesOn.mode {u t : State} (h : u.GoesOn t) : t.ts.mode = u.ts.mode := by
  cases h with
  | rests same => exact same.mode
  | begins same => exact same.mode

/-- No move of the store changes the table of the active bank (R123). -/
theorem State.StoreMove.sameTable {s t : State} {c : Instr} (h : s.StoreMove c t) (hs : s.StoreInv)
    {v : Service} (hv : s.ts.mode = .running v) :
    (s.nv.bank v.active).SameTable (t.nv.bank v.active) := by
  cases h with
  | unchanged hview => exact .of_eq (by rw [(State.storeView_eq.1 hview).1])
  | @drawn u hl hu hview =>
    obtain ⟨hnv, hts, -⟩ := State.storeView_eq.1 hu
    have hul := (State.sameStage_of_view hu).live hl
    rw [(State.storeView_eq.1 hview).1,
      (hs.of_view hu hul.resetLaw).eraseProgress_bank_active (by rw [hts]; exact hv), hnv]
    exact .of_eq rfl
  | @stage u u' hl hend hgo hview =>
    rw [(State.storeView_eq.1 hview).1]
    exact (Bank.SameTable.of_eq (hend.bank_active hs hv)).trans
      (hgo.sameTable (by rw [hend.frame.1]; exact hv))
  | switched hl hc ho hheader ht => rw [ht]; exact .of_eq (by simp)
  | interrupted hnv ht =>
    rcases hnv with h | h <;> rw [h]
    · exact .of_eq rfl
    · exact .of_eq (hs.eraseProgress_bank_active hv)
  | startUp hmode => rw [hv] at hmode; cases hmode

/-- Settles O16: the moves of the store are made on the standby bank, and the one that changes the mode to
another table is a commit's switch. -/
theorem tableInServiceIsNeverDisturbed : Obligations.TableInServiceIsNeverDisturbed := by
  refine ⟨fun c s t v hs hv h => ?_, fun c s t v w hs hv h hw => ?_⟩
  · obtain ⟨hslots, hheader, hsegments⟩ := (exec_storeMove hs h).sameTable hs hv
    exact ⟨hslots, hheader, hsegments⟩
  · have same : t.ts.mode = s.ts.mode → w = v := fun hm => by
      rw [hm, hv] at hw; exact (Mode.running.inj hw).symm
    cases exec_storeMove hs h with
    | unchanged hview => exact .inl (same (State.sameStage_of_view hview).mode)
    | @drawn u hl hu hview =>
      exact .inl (same (((State.sameStage_of_view hu).trans u.eraseProgress_sameStage).trans
        (State.sameStage_of_view hview)).mode)
    | stage hl hend hgo hview =>
      exact .inl (same (((State.sameStage_of_view hview).mode.trans hgo.mode).trans (by rw [hend.frame.1])))
    | @switched b w' r x hl hc ho hheader ht =>
      subst ht
      obtain ⟨-, -, ⟨hbank, hgeneration⟩, htarget⟩ := hs.operation _ ho
      obtain rfl := Mode.running.inj hw
      refine .inr ⟨hc, ?_, by simp [hv, Mode.targetCell], ?_, rfl, rfl⟩
      · rw [hbank, htarget b rfl, hv]; rfl
      · rw [hgeneration, hv]; rfl
    | interrupted hnv ht => rw [ht.starting] at hw; cases hw
    | startUp hmode => rw [hv] at hmode; cases hmode

/-! ### The slots -/

/-- The slot `k` of bank `b` moves to `y` only as an element write or an erase moves it, and in a locked
segment only as an erase with override does (R125, R126, R143). -/
def State.SlotStep (s : State) (b : BankId) (k : SlotNo) (y : Slot) : Prop :=
  (y = (s.nv.bank b).slot k ∨ ((s.nv.bank b).slot k = .blank ∧ y = .programming)
      ∨ ((s.nv.bank b).slot k = .programming ∧ (y = .torn ∨ ∃ e, y = .valid e))
      ∨ (y = .blank ∧ ∃ op ∈ s.ts.op, op.erases b (segmentOf k) = true))
    ∧ (s.locked b (segmentOf k) = true → y ≠ (s.nv.bank b).slot k →
        s.ts.op = some (.eraseSegment b (segmentOf k) true)
          ∨ s.ts.op = some (.eraseBank b true (.segment (segmentOf k))))

section SlotStep
variable {s : State} {b : BankId} {k : SlotNo}

theorem State.SlotStep.same {y : Slot} (h : y = (s.nv.bank b).slot k) : s.SlotStep b k y :=
  ⟨.inl h, fun _ hne => absurd h hne⟩

/-- An element write begins in a slot that is not locked (R143). -/
theorem State.SlotStep.begun (hx : (s.nv.bank b).slot k = .blank) (hl : s.locked b (segmentOf k) = false) :
    s.SlotStep b k .programming :=
  ⟨.inr (.inl ⟨hx, rfl⟩), fun h => by rw [hl] at h; cases h⟩

/-- A slot that is being written becomes VALID or TORN; no such slot is locked (R125, R143). -/
theorem State.SlotStep.ended (hs : s.StoreInv) (hx : (s.nv.bank b).slot k = .programming) {y : Slot}
    (hy : y = .torn ∨ ∃ e, y = .valid e) : s.SlotStep b k y :=
  ⟨.inr (.inr (.inl ⟨hx, hy⟩)), fun hl => absurd hx (hs.locks.2 b k hl)⟩

/-- A slot of the segment being erased becomes BLANK; a locked segment is erased under override (R126). -/
theorem State.SlotStep.erased (hs : s.StoreInv) {op : StoreOp} (ho : s.ts.op = some op)
    (he : op.erases b (segmentOf k) = true) : s.SlotStep b k .blank := by
  refine ⟨.inr (.inr (.inr ⟨rfl, op, ho, he⟩)), fun hl _ => ?_⟩
  rw [ho, Option.some.injEq, Option.some.injEq]
  exact (hs.locks.1 op ho).override_of_erases he hl

/-- What a draw from a running erase makes of a slot (R126, R150). -/
theorem State.SlotStep.drawn (hs : s.StoreInv) {k' : Bank}
    (h : Bank.Drawn b (s.ts.op.bind StoreOp.erasing) (s.nv.bank b) k') : s.SlotStep b k (k'.slot k) := by
  rcases h.slots k with hk | ⟨hk, he⟩
  · exact .same hk
  · obtain ⟨op, ho, hx⟩ := Option.bind_eq_some_iff.1 he
    rw [hk]
    exact .erased hs ho (StoreOp.erasing_some.1 hx)

/-- What the end of a stage makes of a slot. -/
theorem State.StageEnd.slotStep {u : State} (h : s.StageEnd u) (hs : s.StoreInv) :
    s.SlotStep b k ((u.nv.bank b).slot k) := by
  cases h with
  | still => exact .same rfl
  | @slot op c n x ho hw hx =>
    rw [State.mapBank_nv, Nonvolatile.bank_mapBank]
    split
    · rename_i hc
      subst hc
      rw [Bank.slot_setSlot]
      split
      · rename_i hn
        subst hn
        refine .ended hs ((hs.slot_programming_iff ho _ _).2 hw) ?_
        cases x with
        | torn => exact .inl rfl
        | valid e => exact .inr ⟨e, rfl⟩
        | blank | programming => exact hx.elim
      · exact .same rfl
    · exact .same rfl
  | @segment op c n override ho he =>
    rw [State.mapBank_nv, Nonvolatile.bank_mapBank]
    split
    · rename_i hc
      subst hc
      rw [Bank.slot_segmentErased]
      split
      · rename_i hn
        exact .erased hs ho (hn ▸ he)
      · exact .same rfl
    · exact .same rfl
  | header | headerErased =>
    rw [State.mapBank_nv, Nonvolatile.bank_mapBank]
    split
    · rename_i hc
      subst hc; exact .same rfl
    · exact .same rfl

end SlotStep

/-- The slots as an operation begins: as they were, or BLANK made PROGRAMMING by a write into an unlocked
segment that follows on no erase (R125, R143). -/
theorem StoreOp.Begins.slots {u : State} {op : StoreOp} {v : Nonvolatile} (h : op.Begins u v)
    (hsound : op.Sound u.ts.mode) (c : BankId) (k : SlotNo) :
    (v.bank c).slot k = (u.nv.bank c).slot k
      ∨ ((u.nv.bank c).slot k = .blank ∧ (v.bank c).slot k = .programming
          ∧ u.locked c (segmentOf k) = false ∧ u.WriteMayFollow) := by
  cases h with
  | @write _ b n hw hblank hspares hahead hfollows =>
    rw [Nonvolatile.bank_mapBank]
    split
    · rename_i hb
      subst hb
      rw [Bank.slot_setSlot]
      split
      · rename_i hn
        subst hn
        exact .inr ⟨hblank, rfl, hspares.unlocked_of_writes hsound hw, hfollows⟩
      · exact .inl rfl
    · exact .inl rfl
  | commitCell => exact .inl (by rw [Nonvolatile.bank_setCell])
  | eraseHeader | check | commit => exact .inl rfl
  | _ =>
    rw [Nonvolatile.bank_mapBank]
    split
    · subst_vars; exact .inl rfl
    · exact .inl rfl

/-- After a write the lock flags are as they were, and no slot has become BLANK. -/
theorem State.StageEnd.after_write {s u : State} (h : s.StageEnd u) (hw : s.WriteMayFollow) (c : BankId) :
    (u.nv.bank c).locks = (s.nv.bank c).locks
      ∧ ∀ k, (u.nv.bank c).slot k = .blank → (s.nv.bank c).slot k = .blank := by
  cases h with
  | still => exact ⟨rfl, fun _ => id⟩
  | @slot op b n x ho hw' hx =>
    rw [State.mapBank_nv, Nonvolatile.bank_mapBank]
    split
    · rename_i hc
      subst hc
      refine ⟨rfl, fun k hk => ?_⟩
      rw [Bank.slot_setSlot] at hk
      split at hk
      · subst hk; exact hx.elim
      · exact hk
    · exact ⟨rfl, fun _ => id⟩
  | @header b x y ho hx =>
    have := (hw.unmarked ho).1 b
    simp [StoreOp.writesHeader] at this
  | segment _ ho he =>
    rw [(hw.unmarked ho).2] at he; cases he
  | headerErased ho =>
    obtain ⟨d, m, h⟩ := hw _ ho
    cases h

/-- Every move of the store moves a slot as element writes and erases do. -/
theorem State.StoreMove.slotStep {s t : State} {c : Instr} (h : s.StoreMove c t) (hs : s.StoreInv)
    (b : BankId) (k : SlotNo) : s.SlotStep b k ((t.nv.bank b).slot k) := by
  cases h with
  | unchanged hview => exact .same (by rw [(State.storeView_eq.1 hview).1])
  | @drawn u hl hu hview =>
    obtain ⟨hnv, hts, -⟩ := State.storeView_eq.1 hu
    have hdrawn := u.eraseProgress_drawn b
    rw [hnv, hts] at hdrawn
    rw [(State.storeView_eq.1 hview).1]
    exact .drawn hs hdrawn
  | @stage u u' hl hend hgo hview =>
    rw [(State.storeView_eq.1 hview).1]
    cases hgo with
    | rests same hnv => rw [hnv]; exact hend.slotStep hs
    | begins same hbegins htarget hsound =>
      rcases hbegins.slots hsound b k with hk | ⟨hblank, hk, hlock, hfollows⟩
      · rw [hk]; exact hend.slotStep hs
      · rw [State.WriteMayFollow, hend.frame.1] at hfollows
        obtain ⟨hlocks, hblanks⟩ := hend.after_write hfollows b
        rw [hk]
        refine .begun (hblanks k hblank) ?_
        rw [State.locked, hlocks] at hlock
        exact hlock
  | switched hl hc ho hheader ht => rw [ht]; exact .same (by simp)
  | interrupted hnv ht =>
    rcases hnv with h | h <;> rw [h]
    · exact .same rfl
    · exact .drawn hs (s.eraseProgress_drawn b)
  | startUp hmode hbanks ht =>
    rcases hbanks with h | h
    · exact .same (by rw [h])
    · rw [h, Bank.slot_scanned]
      cases hx : (s.nv.bank b).slot k with
      | programming => exact .ended hs hx (.inl rfl)
      | _ => exact .same hx.symm

/-- Settles O17: the moves of the store move a slot as writes and erases do. -/
theorem slotsChangeOnlyByWriteAndErase : Obligations.SlotsChangeOnlyByWriteAndErase := by
  intro c s t b k hs h
  exact (exec_storeMove hs h).slotStep hs b k

end Sys2Proof.Machine
end

section
/-! PROOFS. Lookup answers the lowest qualifying slot (R38); what the bank check covers and where the stages
of the store end (R40, R41, R120, R142, R144). -/

namespace Sys2Proof.Machine

/-! ### Lookup -/

/-- A key that matches a request: its own address and function code, or ANY, which as an address is 1 to 239
(R30). -/
theorem Entry.covers_iff (e : Entry) (addr : Byte) (fn : FunctionCode) :
    e.covers addr fn = true ↔
      (e.keyAddr = addr ∨ (e.keyAddr = 0xFF#8 ∧ 1 ≤ addr.toNat ∧ addr.toNat ≤ 239))
        ∧ (e.keyFn = fn.setWidth 8 ∨ e.keyFn = 0xFF#8) := by
  simp [Entry.covers, BitVec.le_def, and_assoc]

/-- The listed slots that qualify for a request (R38). -/
theorem Bank.qualifying_eq_some {k : Bank} {addr : Byte} {fn : FunctionCode} {p : SlotNo × Slot}
    {n : SlotNo} {e : Entry} :
    k.qualifying addr fn p = some (n, e) ↔
      p = (n, .valid e) ∧ k.segments.get (segmentOf n) = .normal ∧ e.covers addr fn = true := by
  obtain ⟨j, x⟩ := p
  unfold Bank.qualifying
  cases x with
  | valid g =>
    simp only [Prod.mk.injEq, Element.valid.injEq]
    split
    · rename_i h
      simp only [Bool.and_eq_true, decide_eq_true_eq] at h
      simp only [Option.some.injEq, Prod.mk.injEq]
      exact ⟨fun ⟨hj, hg⟩ => ⟨⟨hj, hg⟩, hj ▸ h.1, hg ▸ h.2⟩, fun ⟨hp, _⟩ => hp⟩
    · rename_i h
      simp only [Bool.and_eq_true, decide_eq_true_eq] at h
      simp only [reduceCtorEq, false_iff]
      rintro ⟨⟨rfl, rfl⟩, hn, hc⟩
      exact h ⟨hn, hc⟩
  | blank | programming | torn => simp

/-- In a list in canonical form the first element that a search accepts has the lowest number of all that it
accepts. -/
theorem findSome?_lowest {α : Type} {m : SlotMap} (h : m.Pairwise fun p q => p.1 < q.1)
    {f : SlotNo × Slot → Option α} {a : α} :
    m.findSome? f = some a ↔ ∃ p ∈ m, f p = some a ∧ ∀ q ∈ m, q.1 < p.1 → f q = none := by
  induction m with
  | nil => simp
  | cons r m ih =>
    obtain ⟨hr, hm⟩ := List.pairwise_cons.1 h
    rw [List.findSome?_cons]
    cases hf : f r with
    | some b =>
      simp only [Option.some.injEq]
      constructor
      · rintro rfl
        refine ⟨r, List.mem_cons_self, hf, fun q hq hlt => ?_⟩
        rcases List.mem_cons.1 hq with rfl | hq
        · exact absurd hlt (lt_irrefl _)
        · exact absurd hlt (not_lt.2 (le_of_lt (hr q hq)))
      · rintro ⟨p, hp, hfp, hlow⟩
        rcases List.mem_cons.1 hp with rfl | hp
        · rw [hf] at hfp; exact Option.some.inj hfp
        · have := hlow r List.mem_cons_self (hr p hp)
          rw [hf] at this; cases this
    | none =>
      rw [ih hm]
      constructor
      · rintro ⟨p, hp, hfp, hlow⟩
        refine ⟨p, List.mem_cons_of_mem _ hp, hfp, fun q hq hlt => ?_⟩
        rcases List.mem_cons.1 hq with rfl | hq
        · exact hf
        · exact hlow q hq hlt
      · rintro ⟨p, hp, hfp, hlow⟩
        rcases List.mem_cons.1 hp with rfl | hp
        · rw [hf] at hfp; cases hfp
        · exact ⟨p, hp, hfp, fun q hq => hlow q (List.mem_cons_of_mem _ hq)⟩

/-- A bank in canonical form lists a VALID slot exactly where it reads VALID. -/
theorem SlotMap.mem_valid_iff {m : SlotMap} (h : SlotMap.Wf m) {n : SlotNo} {e : Entry} :
    (n, Element.valid e) ∈ m ↔ SlotMap.read m n = .valid e := by
  constructor
  · exact SlotMap.read_of_mem h
  · intro hr
    rw [← hr]
    exact SlotMap.mem_of_read (by rw [hr]; simp)

/-- The slot holds an entry that qualifies for a request (R38). -/
def Bank.Qualifies (k : Bank) (addr : Byte) (fn : FunctionCode) (n : SlotNo) (e : Entry) : Prop :=
  k.slot n = .valid e ∧ k.segments.get (segmentOf n) = .normal ∧ e.covers addr fn = true

theorem Bank.qualifies_iff {k : Bank} (h : SlotMap.Wf k.slots) {addr : Byte} {fn : FunctionCode} {n : SlotNo}
    {e : Entry} : k.Qualifies addr fn n e ↔ ∃ p ∈ k.slots, k.qualifying addr fn p = some (n, e) := by
  simp only [Bank.qualifying_eq_some, Bank.Qualifies, Bank.slot, ← SlotMap.mem_valid_iff h]
  exact ⟨fun ⟨hm, hq⟩ => ⟨_, hm, rfl, hq⟩, fun ⟨p, hm, hp, hq⟩ => ⟨hp ▸ hm, hq⟩⟩

theorem Bank.lookup_eq_none {k : Bank} (h : SlotMap.Wf k.slots) {addr : Byte} {fn : FunctionCode} :
    k.lookup addr fn = none ↔ ∀ n e, ¬ k.Qualifies addr fn n e := by
  simp only [Bank.lookup, List.findSome?_eq_none_iff, Bank.qualifies_iff h]
  constructor
  · rintro hnone n e ⟨p, hp, hq⟩
    rw [hnone p hp] at hq; cases hq
  · intro hnone p hp
    by_contra hne
    obtain ⟨⟨n, e⟩, hq⟩ := Option.ne_none_iff_exists'.1 hne
    exact hnone n e ⟨p, hp, hq⟩

theorem Bank.lookup_eq_some {k : Bank} (h : SlotMap.Wf k.slots) {addr : Byte} {fn : FunctionCode} {n : SlotNo}
    {e : Entry} : k.lookup addr fn = some (n, e) ↔
      k.Qualifies addr fn n e ∧ ∀ m g, m.val < n.val → ¬ k.Qualifies addr fn m g := by
  rw [Bank.lookup, findSome?_lowest h.1]
  simp only [Bank.qualifies_iff h]
  constructor
  · rintro ⟨p, hp, hq, hlow⟩
    refine ⟨⟨p, hp, hq⟩, fun m g hlt ⟨q, hqm, hqq⟩ => ?_⟩
    obtain ⟨rfl, -⟩ := Bank.qualifying_eq_some.1 hq
    obtain ⟨rfl, -⟩ := Bank.qualifying_eq_some.1 hqq
    rw [hlow _ hqm hlt] at hqq; cases hqq
  · rintro ⟨⟨p, hp, hq⟩, hlow⟩
    refine ⟨p, hp, hq, fun q hqm hlt => ?_⟩
    obtain ⟨rfl, -⟩ := Bank.qualifying_eq_some.1 hq
    by_contra hne
    obtain ⟨⟨m, g⟩, hqq⟩ := Option.ne_none_iff_exists'.1 hne
    obtain ⟨rfl, -⟩ := Bank.qualifying_eq_some.1 hqq
    exact hlow m g hlt ⟨_, hqm, hqq⟩

/-- Settles O29: the search runs through the slots by rising number. -/
theorem lookupFindsTheLowestQualifyingSlot : Obligations.LookupFindsTheLowestQualifyingSlot := by
  intro k addr fn h
  have qualifies : ∀ n e, (k.slot n = .valid e ∧ k.segments.get (segmentOf n) = .normal
      ∧ (e.keyAddr = addr ∨ (e.keyAddr = 0xFF#8 ∧ 1 ≤ addr.toNat ∧ addr.toNat ≤ 239))
      ∧ (e.keyFn = fn.setWidth 8 ∨ e.keyFn = 0xFF#8)) ↔ k.Qualifies addr fn n e := fun n e => by
    rw [Bank.Qualifies, Entry.covers_iff]
  simp only [qualifies]
  exact ⟨fun n e => Bank.lookup_eq_some h, Bank.lookup_eq_none h⟩

/-! ### The bank check and the ends of the stages -/

/-- A completion with OK: the store IDLE, the latch as it was and ALERT_N with it (R120, R146). -/
theorem State.complete_ok (s : State) :
    s.complete .ok = { s with
      ts := { s.ts with op := none, lastResult := .ok }
      pins := { s.pins with
        alert := s.pins.powered && (!s.pins.resetN || !s.ts.mode.isRunning || s.ts.faultLatch) } } := by
  simp [State.complete, State.driveAlert, State.alertLevel]

/-- Settles O54: each stage-end event completes its own stage and occurs in no other. -/
theorem lockAndCheckEnd : Obligations.LockAndCheckEnd := by
  refine ⟨fun s b => ⟨fun n ho => ?_, fun ho => ?_⟩, fun k => ⟨?_, fun _ _ => rfl⟩, fun s =>
    ⟨fun h1 h2 h3 image => ?_, fun h1 h2 => ?_, fun h1 => ?_, fun h1 => ?_, fun h1 => ?_, fun h1 => ?_,
      fun h1 => ?_, fun h1 q => ?_, fun h1 => ?_⟩⟩
  · simp only [exec, execLockWriteEnd, ho, State.complete_ok]
  · simp only [exec, execCheckBankComplete, ho, State.complete_ok]
    rfl
  · refine congrArg crc (congrArg₂ (· ++ ·) ?_ (congrArg (List.finRange 512).flatMap (funext fun n => ?_)))
    · cases k.header <;> rfl
    · cases k.slot n <;> rfl
  · change execElementWriteEnd image s = _
    unfold execElementWriteEnd
    split
    · exact absurd ‹_› (h1 _ _ _)
    · exact absurd ‹_› (h2 _ _)
    · exact absurd ‹_› (h3 _ _ _ _)
    · rfl
  · change execSegmentEraseEnd s = _
    unfold execSegmentEraseEnd
    split
    · exact absurd ‹_› (h1 _ _ _)
    · exact absurd ‹_› (h2 _ _ _)
    · rfl
  · change execHeaderEraseEnd s = _
    unfold execHeaderEraseEnd
    split
    · exact absurd ‹_› (h1 _ _)
    · rfl
  · change execLockWriteEnd s = _
    unfold execLockWriteEnd
    split
    · exact absurd ‹_› (h1 _ _)
    · rfl
  · change execCheckBankComplete s = _
    unfold execCheckBankComplete
    split
    · exact absurd ‹_› (h1 _)
    · rfl
  · change execCommitCheckStageEnd s = _
    unfold execCommitCheckStageEnd
    split
    · exact absurd ‹_› (h1 _ _)
    · rfl
  · change execPointerWriteStart s = _
    unfold execPointerWriteStart
    split
    · exact absurd ‹_› (h1 _ _ _)
    · rfl
  · change execPointerVerify q s = _
    unfold execPointerVerify
    split
    · exact absurd ‹_› (h1 _ _ _)
    · rfl
  · change execPointerSelection s = _
    unfold execPointerSelection
    split
    · exact absurd ‹_› (h1 _ _)
    · rfl

end Sys2Proof.Machine
end

section
/-! PROOFS. The start-up scan and pointer selection: the newest VALID record, the candidates in their order,
and the whole next state of each path (R43, R153, R162 to R165). -/

namespace Sys2Proof.Machine

/-! ### The newest VALID record (R153) -/

section Newest
variable {v : Nonvolatile}

/-- With both cells VALID, generations decide: the successor of the other, or else the larger (R153). -/
theorem Nonvolatile.newest_of_both {r0 r1 : PointerRecord} (h0 : v.cell0 = .valid r0)
    (h1 : v.cell1 = .valid r1) :
    v.newest =
      if r0.generation = r1.generation + 1 then some .zero
      else if r1.generation = r0.generation + 1 then some .one
      else if r0.generation < r1.generation then some .one
      else some .zero := by
  simp only [Nonvolatile.newest, h0, h1]

theorem Nonvolatile.newest_of_zero {r0 : PointerRecord} (h0 : v.cell0 = .valid r0)
    (h1 : ∀ r, v.cell1 ≠ .valid r) : v.newest = some .zero := by
  unfold Nonvolatile.newest
  rw [h0]
  cases hc : v.cell1 with
  | valid r => exact absurd hc (h1 r)
  | blank | writing => rfl

theorem Nonvolatile.newest_of_one {r1 : PointerRecord} (h1 : v.cell1 = .valid r1)
    (h0 : ∀ r, v.cell0 ≠ .valid r) : v.newest = some .one := by
  unfold Nonvolatile.newest
  rw [h1]
  cases hc : v.cell0 with
  | valid r => exact absurd hc (h0 r)
  | blank | writing => rfl

theorem Nonvolatile.newest_of_none (h0 : ∀ r, v.cell0 ≠ .valid r) (h1 : ∀ r, v.cell1 ≠ .valid r) :
    v.newest = none := by
  unfold Nonvolatile.newest
  cases hc : v.cell0 with
  | valid r => exact absurd hc (h0 r)
  | blank | writing =>
    cases hd : v.cell1 with
    | valid r => exact absurd hd (h1 r)
    | blank | writing => rfl

/-- No two generations are each the successor of the other. -/
theorem generation_ne_of_successor {a b : Word} (h : b = a + 1) : a ≠ b + 1 := by
  bv_omega

/-- The standby bank of an UNCONFIGURED part is the bank that the newest record does not name (R43). -/
theorem Nonvolatile.unconfiguredStandby_of_newest {c : CellId} {r : PointerRecord} (hn : v.newest = some c)
    (hc : v.cell c = .valid r) : v.unconfiguredStandby = otherBank r.bank := by
  simp only [Nonvolatile.unconfiguredStandby, hn, hc]

theorem Nonvolatile.unconfiguredStandby_of_none (hn : v.newest = none) : v.unconfiguredStandby = .bankA := by
  simp only [Nonvolatile.unconfiguredStandby, hn]

/-- The cells that selection tries: the newest record's, and the other if it is VALID (R163). -/
theorem Nonvolatile.candidates_two {c : CellId} {q : PointerRecord} (hn : v.newest = some c)
    (hc : v.cell c.other = .valid q) : v.candidates = [c, c.other] := by
  simp only [Nonvolatile.candidates, hn, hc]

theorem Nonvolatile.candidates_one {c : CellId} (hn : v.newest = some c)
    (hc : ∀ q, v.cell c.other ≠ .valid q) : v.candidates = [c] := by
  simp only [Nonvolatile.candidates, hn]

theorem Nonvolatile.candidates_none (hn : v.newest = none) : v.candidates = [] := by
  simp only [Nonvolatile.candidates, hn]

end Newest

/-! ### Selection (R163, R164) -/

section Selection
variable {s : State} {c : CellId} {rest : List CellId}

/-- A candidate whose bank has a VALID header is verified next. -/
theorem State.select_found {r : PointerRecord} {h : Header} (hc : s.nv.cell c = .valid r)
    (hh : (s.nv.bank r.bank).header = .valid h) :
    s.select (c :: rest) = { s with ts := { s.ts with startUp := .verifying c rest } }.driveAlert := by
  rw [State.select, hc]
  simp only [hh]

/-- A candidate whose bank has no VALID header fails at once. -/
theorem State.select_failed {r : PointerRecord} (hc : s.nv.cell c = .valid r)
    (hh : ∀ h, (s.nv.bank r.bank).header ≠ .valid h) :
    s.select (c :: rest) = (s.startUpFault .activeCheckFail).select rest := by
  rw [State.select, hc]
  cases hx : (s.nv.bank r.bank).header with
  | valid h => exact absurd hx (hh h)
  | blank | programming | torn => simp only [hx]

/-- A cell that is not VALID is passed over. -/
theorem State.select_skipped (hc : ∀ r, s.nv.cell c ≠ .valid r) : s.select (c :: rest) = s.select rest := by
  rw [State.select]
  cases hx : s.nv.cell c with
  | valid r => exact absurd hx (hc r)
  | blank | writing => rfl

/-- Once ACTIVE_CHECK_FAIL is latched, a last candidate without a VALID header ends in UNCONFIGURED. -/
theorem State.select_last_fails
    (hc : ∀ q g, s.nv.cell c = .valid q → (s.nv.bank q.bank).header ≠ .valid g) :
    (s.startUpFault .activeCheckFail).select [c]
      = (s.startUpFault .activeCheckFail).endStarting (.unconfigured s.nv.unconfiguredStandby) := by
  cases hx : s.nv.cell c with
  | valid r =>
    rw [State.select_failed (s := s.startUpFault .activeCheckFail) hx fun h => hc r h hx]
    rfl
  | blank | writing =>
    rw [State.select_skipped (s := s.startUpFault .activeCheckFail) fun r h => by
      rw [State.startUpFault_nv, hx] at h; cases h]
    rfl

end Selection

/-- STARTING ends in RUNNING (R164, R165). -/
theorem State.endStarting_running (s : State) (v : Service) :
    s.endStarting (.running v) = { s with
      ts := { s.ts with mode := .running v, startUp := .idle }
      tt := { s.tt with
        tags := Vector.replicate 32 .quiet, freeList := [], quietTimer := some v.header.quarantine }
      pins := { s.pins with alert := s.pins.powered && (!s.pins.resetN || s.ts.faultLatch) } } := by
  simp only [State.endStarting, State.driveAlert, State.alertLevel, State.beginQuiet, State.quietLength,
    Mode.isRunning, Bool.not_true, Bool.or_false]

/-- STARTING ends in UNCONFIGURED (R164, R165). -/
theorem State.endStarting_unconfigured (s : State) (b : BankId) :
    s.endStarting (.unconfigured b) = { s with
      ts := { s.ts with mode := .unconfigured b, startUp := .idle }
      tt := { s.tt with tags := Vector.replicate 32 .quiet, freeList := [], quietTimer := some 5 }
      pins := { s.pins with alert := s.pins.powered } } := by
  simp only [State.endStarting, State.driveAlert, State.alertLevel, State.beginQuiet, State.quietLength,
    Mode.isRunning, Bool.not_false, Bool.or_true, Bool.true_or, Bool.and_true]
  rfl

/-- Settles O8: the candidate's check decides, and the cells still to try follow in their order. -/
theorem pointerSelectionEnds : Obligations.PointerSelectionEnds := by
  refine ⟨fun s c untried r h hst hc hh => ⟨fun heq => ?_, fun hne hlast => ?_, fun hne d q g hd hq hg => ?_⟩,
    fun v => ⟨fun r0 r1 h0 h1 => ?_, fun r0 h0 h1 => Nonvolatile.newest_of_zero h0 h1,
      fun r1 h1 h0 => Nonvolatile.newest_of_one h1 h0,
      fun h0 h1 => ⟨Nonvolatile.newest_of_none h0 h1,
        Nonvolatile.unconfiguredStandby_of_none (Nonvolatile.newest_of_none h0 h1)⟩,
      fun c r hn hc => Nonvolatile.unconfiguredStandby_of_newest hn hc⟩⟩
  · have hv : s.verified c
        = some { active := r.bank, cell := c, generation := r.generation, header := h } := by
      simp only [State.verified, hc, hh, heq, if_true]
    simp only [exec, execPointerSelection, hst, hv, State.endStarting_running]
  · have hv : s.verified c = none := by simp only [State.verified, hc, hh, hne, if_false]
    have hend : (s.startUpFault .activeCheckFail).select untried
        = (s.startUpFault .activeCheckFail).endStarting (.unconfigured s.nv.unconfiguredStandby) := by
      rcases hlast with rfl | ⟨d, rfl, hd⟩
      · rfl
      · exact State.select_last_fails hd
    simp only [exec, execPointerSelection, hst, hv, hend, State.endStarting_unconfigured]
    rfl
  · have hv : s.verified c = none := by simp only [State.verified, hc, hh, hne, if_false]
    subst hd
    simp only [exec, execPointerSelection, hst, hv]
    rw [State.select_found (s := s.startUpFault .activeCheckFail) hq hg]
    simp [State.driveAlert, State.alertLevel, State.startUpFault]
  · rw [Nonvolatile.newest_of_both h0 h1]
    refine ⟨fun h => if_pos h, fun h => ?_, fun hn0 hn1 => ?_⟩
    · rw [if_neg (generation_ne_of_successor h), if_pos h]
    · rw [if_neg hn0, if_neg hn1]
      refine ⟨fun h => if_neg ?_, fun h => if_pos h, fun h => if_neg ?_⟩
      · rw [BitVec.lt_def]; omega
      · rw [BitVec.lt_def, h]; exact Nat.lt_irrefl _

/-! ### The scan (R162) -/

theorem Element.scanned_eq {α : Type} [DecidableEq α] (x : Element α) :
    x.scanned = if x = .programming then .torn else x := by
  cases x <;> simp [Element.scanned]

theorem SegmentCondition.scanned_eq (x : SegmentCondition) :
    x.scanned = if x = .erasing then .eraseIncomplete else x := by
  cases x <;> simp [SegmentCondition.scanned]

theorem State.scan_cell (s : State) (c : CellId) : s.scan.nv.cell c = s.nv.cell c := by
  rw [s.scan_nv]
  cases c <;> rfl

/-- The scan makes no header VALID and takes none away. -/
theorem State.scan_header_iff (s : State) (b : BankId) (h : Header) :
    (s.scan.nv.bank b).header = .valid h ↔ (s.nv.bank b).header = .valid h := by
  rw [s.scan_bank]
  refine ⟨Bank.header_eq_scanned, fun hb => ?_⟩
  change (s.nv.bank b).header.scanned = _
  rw [hb]; rfl

theorem State.scan_unconfiguredStandby (s : State) :
    s.scan.nv.unconfiguredStandby = s.nv.unconfiguredStandby := by
  rw [s.scan_nv]; rfl

/-- A mark in a bank in canonical form (R162). -/
theorem Bank.marked_iff {k : Bank} (h : SlotMap.Wf k.slots) :
    k.marked = true ↔
      k.header = .programming ∨ (∃ n, k.slot n = .programming) ∨ ∃ n, k.segments.get n = .erasing := by
  have listed : (∃ p ∈ k.slots, p.2 = Element.programming) ↔ ∃ n, k.slot n = .programming := by
    constructor
    · rintro ⟨⟨n, x⟩, hm, hx⟩
      exact ⟨n, (SlotMap.read_of_mem h hm).trans hx⟩
    · rintro ⟨n, hn⟩
      exact ⟨_, SlotMap.mem_of_read (n := n) (by rw [show SlotMap.read k.slots n = _ from hn]; simp), hn⟩
  simp only [Bank.marked, Bool.or_eq_true, List.any_eq_true, decide_eq_true_eq, List.mem_finRange, true_and,
    listed, or_assoc]

/-- Latching ACTIVE_CHECK_FAIL replaces what the scan latched (R163). -/
theorem State.scan_startUpFault (s : State) :
    s.scan.startUpFault .activeCheckFail = { s with
      nv := s.scan.nv
      ts := { s.ts with faultLatch := true, lastOp := .startUp, lastResult := .activeCheckFail } } := by
  unfold State.scan
  simp only
  split <;> rfl

/-- Settles O7: the scan converts every mark, and selection begins on the memory it leaves. -/
theorem startUpScanEnds : Obligations.StartUpScanEnds := by
  have ends : ∀ s : State, s.ts.startUp = .scanning →
      exec .startUpScan s = .next (s.scan.select s.nv.candidates) := fun s hs => by
    simp only [exec, execStartUpScan, hs]
  refine ⟨fun s hs => ?_, fun s hs => ⟨fun h0 h1 => ?_, fun c r hn hc =>
      ⟨fun h hh => ⟨fun q hq => ?_, fun hq => ?_⟩, fun hh => ⟨fun q g hq hg => ?_, fun hq => ?_⟩⟩⟩,
    fun k hk => Bank.marked_iff hk, fun s hs => ?_⟩
  · have hnv : (s.scan.select s.nv.candidates).nv = s.scan.nv := by
      rcases s.scan.select_cases s.nv.candidates with ⟨u, -, -, -, -, h⟩
        | ⟨u, _, _, _, _, -, -, -, -, -, -, -, h⟩ <;> rw [h] <;> rfl
    refine ⟨_, ends s hs, ?_, ?_, fun b => ?_⟩ <;> rw [hnv]
    · exact s.scan_cell .zero
    · exact s.scan_cell .one
    · rw [s.scan_bank]
      exact ⟨rfl, Element.scanned_eq _, fun k => by rw [Bank.slot_scanned, Element.scanned_eq],
        fun n => by rw [Bank.segment_scanned, SegmentCondition.scanned_eq]⟩
  · have hnone := Nonvolatile.newest_of_none h0 h1
    have hstandby : s.scan.nv.unconfiguredStandby = .bankA := by
      rw [s.scan_unconfiguredStandby, Nonvolatile.unconfiguredStandby_of_none hnone]
    refine ⟨_, ends s hs, ?_⟩
    rw [Nonvolatile.candidates_none hnone, State.select, hstandby, s.scan_eq]
    rfl
  · refine ⟨_, ends s hs, ?_⟩
    rw [Nonvolatile.candidates_two hn hq, State.select_found ((s.scan_cell c).trans hc)
      ((s.scan_header_iff r.bank h).2 hh), s.scan_eq]
    rfl
  · refine ⟨_, ends s hs, ?_⟩
    rw [Nonvolatile.candidates_one hn hq, State.select_found ((s.scan_cell c).trans hc)
      ((s.scan_header_iff r.bank h).2 hh), s.scan_eq]
    rfl
  · refine ⟨_, ends s hs, ?_⟩
    rw [Nonvolatile.candidates_two hn hq, State.select_failed ((s.scan_cell c).trans hc)
        fun h hx => hh h ((s.scan_header_iff r.bank h).1 hx),
      State.select_found (s := s.scan.startUpFault .activeCheckFail) ((s.scan_cell c.other).trans hq)
        ((s.scan_header_iff q.bank g).2 hg), s.scan_startUpFault]
    rfl
  · refine ⟨_, ends s hs, ?_⟩
    have hstandby : s.scan.nv.unconfiguredStandby = otherBank r.bank := by
      rw [s.scan_unconfiguredStandby, Nonvolatile.unconfiguredStandby_of_newest hn hc]
    have hfail : ∀ rest, s.scan.select (c :: rest) = (s.scan.startUpFault .activeCheckFail).select rest :=
      fun rest => State.select_failed ((s.scan_cell c).trans hc)
        fun h hx => hh h ((s.scan_header_iff r.bank h).1 hx)
    have hend : s.scan.select s.nv.candidates
        = (s.scan.startUpFault .activeCheckFail).endStarting (.unconfigured (otherBank r.bank)) := by
      by_cases hother : ∃ q, s.nv.cell c.other = .valid q
      · obtain ⟨q, hother⟩ := hother
        rw [Nonvolatile.candidates_two hn hother, hfail, ← hstandby]
        exact State.select_last_fails fun q g hx hg =>
          hq q g ((s.scan_cell c.other).symm.trans hx) ((s.scan_header_iff q.bank g).1 hg)
      · rw [Nonvolatile.candidates_one hn (not_exists.1 hother), hfail, ← hstandby]
        rfl
    rw [hend, s.scan_startUpFault]
    rfl
  · change execStartUpScan s = _
    unfold execStartUpScan
    split
    · exact absurd ‹_› hs
    · rfl

end Sys2Proof.Machine
end

section
/-! PROOFS. Admitting requests: the last character of a frame hands the frame on, a request reaches the
Request Path in the mode it is taken in, and what the lookup answers decides its reply (R47 to R68). -/

namespace Sys2Proof.Machine

/-! ### The last character of a frame -/

/-- The character that completes a frame leaves its receiver in HUNT and hands the frame on (R8, R11). -/
theorem State.Completes.exec_lastCharacter {s : State} {line : Line} {f : Frame} (h : s.Completes line f)
    (keysw rested : Bool) :
    exec (f.lastCharacter line keysw rested) s = .next ((s.afterFrame line keysw).handOn f.whole line) := by
  obtain ⟨hl, hawaits, -, running, hreceiver⟩ := h
  have hpins : s.pins.powered = true ∧ s.pins.resetN = true := by
    simp only [State.listening, State.outOfReset, Bool.and_eq_true] at hl
    exact hl.1
  have hlength : (f.body ++ [highHalf f.check] ++ [lowHalf f.check]).length = f.payload.length + 6 := by simp
  have htaken : (s.receiver line).takeCharacter (lowHalf f.check) false = (.hunt, .good f.whole) := by
    have hlate : ¬ f.payload.length + 6 = 4 := by omega
    simp only [hreceiver, Receiver.takeCharacter, appendCharacter, Bool.false_eq_true, if_false, hlength, hlate,
      false_and, if_true, completeFrame_body]
  change execCharacter _ _ _ _ _ = _
  rw [execCharacter_listening hl, if_pos ((s.recognises_iff line rested).2 ⟨hpins.1, hpins.2, .inl hawaits⟩),
    htaken]
  rfl

@[simp] theorem State.afterFrame_mgmtAddr (s : State) (line : Line) (keysw : Bool) :
    (s.afterFrame line keysw).mgmtAddr = s.mgmtAddr := by
  simp [State.mgmtAddr]

@[simp] theorem State.afterFrame_duplicate (s : State) (line : Line) (keysw : Bool) (f : Frame) :
    (s.afterFrame line keysw).duplicate f = s.duplicate f := by
  simp [State.duplicate]

/-- A good upline frame that is not for the Management Engine goes to the Request Path (R13, R46). -/
theorem State.Completes.exec_request {s : State} {f : Frame} (h : s.Completes .upline f) (keysw rested : Bool)
    (hme : ¬ (f.dir = false ∧ f.exc = false ∧ f.addr = s.mgmtAddr)) :
    exec (f.lastCharacter .upline keysw rested) s = .next ((s.afterFrame .upline keysw).takeRequest f) := by
  rw [h.exec_lastCharacter]
  rcases (s.afterFrame .upline keysw).handOnUpline_cases f.whole with ⟨hd, he, ha, -⟩ | ⟨-, hon⟩
  · exact absurd ⟨hd, he, ha.trans (s.afterFrame_mgmtAddr ..)⟩ hme
  · exact congrArg _ hon

theorem State.takeRequest_foreign (s : State) {f : Frame} (h : f.dir = true ∨ f.exc = true ∨ 0xF0#8 ≤ f.addr) :
    s.takeRequest f = s.count .foreign := by
  simp only [State.takeRequest, Frame.requestClass_foreign h]

theorem State.takeRequest_station (s : State) {f : Frame} (hd : f.dir = false) (he : f.exc = false)
    (h1 : 1#8 ≤ f.addr) (h2 : f.addr ≤ 0xEF#8) : s.takeRequest f = s.stationRequest f := by
  simp only [State.takeRequest, Frame.requestClass_station hd he h1 h2]

theorem State.takeRequest_broadcast (s : State) {f : Frame} (hd : f.dir = false) (he : f.exc = false)
    (h : f.addr = 0) : s.takeRequest f = s.broadcastRequest f := by
  simp only [State.takeRequest, Frame.requestClass_broadcast hd he h]

/-! ### The offer of a synthesized reply -/

/-- Settles O35: the two ways of the offer, by the room in the queue. -/
theorem synthesizedReplyIsOffered : Obligations.SynthesizedReplyIsOffered := by
  intro s f
  rcases s.offerSynthesized_cases f with ⟨hroom, h⟩ | ⟨hfull, h⟩
  · exact ⟨fun _ => h, fun hfull => absurd hroom (Nat.not_lt.2 hfull)⟩
  · exact ⟨fun hroom => absurd hroom (Nat.not_lt.2 hfull), fun _ => h⟩

/-! ### Foreign frames, and requests without a table -/

/-- Settles O26: a foreign frame is for the Request Path, which counts it alone. -/
theorem foreignFrameIsDropped : Obligations.ForeignFrameIsDropped := by
  intro s f keysw rested hc hme hforeign
  rw [hc.exec_request keysw rested hme, State.takeRequest_foreign _ hforeign]

/-- With no table in service the Engine's address is among the strapped ones, F8h to FBh (R44). -/
theorem State.mgmtAddr_of_unconfigured {s : State} {b : BankId} (h : s.ts.mode = .unconfigured b) :
    0xF8#8 ≤ s.mgmtAddr := by
  have strapped : ∀ madr : BitVec 2, 0xF8#8 ≤ Config.strappedBase + madr.setWidth 8 := by decide
  simpa only [State.mgmtAddr, h] using strapped s.straps.madr

/-- Settles O27: the strapped address is no station's, and the Request Path looks up nothing. -/
theorem requestsWithoutATable : Obligations.RequestsWithoutATable := by
  intro s f keysw rested b hc hmode hd he
  have hmgmt := State.mgmtAddr_of_unconfigured hmode
  have request := fun hme => hc.exec_request keysw rested (mt (fun h => h.2.2) hme)
  refine ⟨fun h1 h2 => ?_, fun h0 => ?_⟩
  · rw [request fun h => by rw [← h] at hmgmt; exact absurd (BitVec.le_trans hmgmt h2) (by decide),
      State.takeRequest_station _ hd he h1 h2]
    simp only [State.stationRequest, State.afterFrame_ts, hmode]
    rfl
  · rw [request fun h => by rw [← h, h0] at hmgmt; exact absurd hmgmt (by decide),
      State.takeRequest_broadcast _ hd he h0]
    simp only [State.broadcastRequest, State.afterFrame_ts, hmode]

/-! ### Station requests in RUNNING -/

/-- With a table in service the Engine has the address of its header (R44). -/
theorem State.mgmtAddr_of_running {s : State} {v : Service} (h : s.ts.mode = .running v) :
    s.mgmtAddr = v.header.mgmtAddr := by
  simp only [State.mgmtAddr, h]

/-- A station request in RUNNING meets the test for duplicates first (R51). -/
theorem State.TakesStationRequest.exec_eq {s : State} {v : Service} {f : Frame}
    (h : s.TakesStationRequest v f) (keysw rested : Bool) :
    exec (f.lastCharacter .upline keysw rested) s = .next (
      if s.duplicate f then (s.afterFrame .upline keysw).count .duplicates
      else (s.afterFrame .upline keysw).translate v f) := by
  obtain ⟨hc, hmode, ⟨hd, he⟩, ⟨h1, h2⟩, hme⟩ := h
  rw [hc.exec_request keysw rested (fun h => hme (h.2.2.trans (State.mgmtAddr_of_running hmode))),
    State.takeRequest_station _ hd he h1 h2]
  simp only [State.stationRequest, State.afterFrame_ts, hmode, State.afterFrame_duplicate]

theorem State.duplicate_of_fresh {s : State} {f : Frame} (h : s.Fresh f) : s.duplicate f = false := by
  rw [← Bool.not_eq_true, s.duplicate_iff]
  exact fun ⟨t, r, ht, hkey⟩ => h t r ht hkey

/-- A request that no record duplicates passes to lookup (R51, R53). -/
theorem State.TakesStationRequest.exec_fresh {s : State} {v : Service} {f : Frame}
    (h : s.TakesStationRequest v f) (hfresh : s.Fresh f) (keysw rested : Bool) :
    exec (f.lastCharacter .upline keysw rested) s = .next ((s.afterFrame .upline keysw).translate v f) := by
  rw [h.exec_eq, State.duplicate_of_fresh hfresh]
  rfl

/-- Settles O28: the duplicate test decides between the count and the lookup. -/
theorem duplicateIsDropped : Obligations.DuplicateIsDropped := by
  intro s v f keysw rested h
  refine ⟨fun hdup => ?_, fun hfresh => h.exec_fresh hfresh keysw rested⟩
  rw [h.exec_eq, if_pos ((s.duplicate_iff f).2 hdup)]

/-! ### The ways a lookup can end (R53 to R57) -/

section Translate
variable {s : State} {v : Service} {f : Frame} {n : SlotNo} {e : Entry}

theorem State.translate_miss_drop (h : (s.nv.bank v.active).lookup f.addr f.fn = none)
    (hm : v.header.missAction = .drop) : s.translate v f = s.count .notForwarded := by
  simp only [State.translate, h, hm]

theorem State.translate_miss_reject (h : (s.nv.bank v.active).lookup f.addr f.fn = none)
    (hm : v.header.missAction = .reject) :
    s.translate v f = s.answer .notForwarded (f.exception .noEntry) := by
  simp only [State.translate, h, hm]

theorem State.translate_drop (h : (s.nv.bank v.active).lookup f.addr f.fn = some (n, e))
    (ha : e.action = .drop) : s.translate v f = s.count .notForwarded := by
  simp only [State.translate, h, ha]

theorem State.translate_answer {characters : List Byte}
    (h : (s.nv.bank v.active).lookup f.addr f.fn = some (n, e)) (ha : e.action = .answer characters) :
    s.translate v f = s.answer .notForwarded (f.reply false characters) := by
  simp only [State.translate, h, ha]

theorem State.translate_reject {reason : Byte}
    (h : (s.nv.bank v.active).lookup f.addr f.fn = some (n, e)) (ha : e.action = .reject reason) :
    s.translate v f = s.answer .notForwarded (f.exception (.rejected reason)) := by
  simp only [State.translate, h, ha]

theorem State.translate_forward {p : ForwardParams}
    (h : (s.nv.bank v.active).lookup f.addr f.fn = some (n, e)) (ha : e.action = .forward p) :
    s.translate v f = s.forward v n p f := by
  simp only [State.translate, h, ha]

end Translate

/-! ### Misses, and entries that the table answers itself -/

/-- Settles O30: lookup misses after the frame as before it, and the miss action decides. -/
theorem missActionApplies : Obligations.MissActionApplies := by
  intro s v f keysw rested h hfresh hmiss
  rw [h.exec_fresh hfresh]
  rw [← s.afterFrame_nv .upline keysw] at hmiss
  exact ⟨fun hm => congrArg _ (State.translate_miss_drop hmiss hm),
    fun hm => congrArg _ (State.translate_miss_reject hmiss hm)⟩

/-- Settles O31: lookup finds after the frame what it finds before it, and the entry's action decides. -/
theorem tableAnswersItself : Obligations.TableAnswersItself := by
  intro s v f keysw rested n e h hfresh hhit
  rw [h.exec_fresh hfresh]
  rw [← s.afterFrame_nv .upline keysw] at hhit
  exact ⟨fun ha => congrArg _ (State.translate_drop hhit ha),
    fun _ ha => congrArg _ (State.translate_answer hhit ha),
    fun _ ha => congrArg _ (State.translate_reject hhit ha)⟩

/-! ### FORWARD entries -/

/-- A request whose entry is FORWARD is forwarded under that entry's parameters (R57). -/
theorem State.TakesStationRequest.exec_forward {s : State} {v : Service} {f : Frame} {n : SlotNo} {e : Entry}
    {p : ForwardParams} (h : s.TakesStationRequest v f) (hfresh : s.Fresh f)
    (hhit : (s.nv.bank v.active).lookup f.addr f.fn = some (n, e)) (ha : e.action = .forward p)
    (keysw rested : Bool) :
    exec (f.lastCharacter .upline keysw rested) s = .next ((s.afterFrame .upline keysw).forward v n p f) := by
  rw [← s.afterFrame_nv .upline keysw] at hhit
  rw [h.exec_fresh hfresh, State.translate_forward hhit ha]

/-- Settles O32: the length is tested before the free list. -/
theorem forwardIsRefused : Obligations.ForwardIsRefused := by
  intro s v f keysw rested n e p h hfresh hhit ha
  rw [h.exec_forward hfresh hhit ha]
  rcases (s.afterFrame .upline keysw).forward_cases v n p f with
    ⟨hlong, hf⟩ | ⟨hshort, -, hf⟩ | ⟨t, rest, hshort, hfree, -⟩
  · exact ⟨fun _ => congrArg _ hf, fun hshort => absurd hlong (Nat.not_lt.2 hshort)⟩
  · exact ⟨fun hlong => absurd hlong (Nat.not_lt.2 hshort), fun _ _ => congrArg _ hf⟩
  · rw [State.afterFrame_tt] at hfree
    exact ⟨fun hlong => absurd hlong (Nat.not_lt.2 hshort), fun _ hnil => by rw [hnil] at hfree; cases hfree⟩

/-- Settles O33: short enough and with a tag free, the request is admitted. -/
theorem requestIsAdmitted : Obligations.RequestIsAdmitted := by
  intro s v f keysw rested n e p t rest h hfresh hhit ha hshort hfree
  rw [h.exec_forward hfresh hhit ha]
  rw [← s.afterFrame_tt .upline keysw] at hfree
  rcases (s.afterFrame .upline keysw).forward_cases v n p f with
    ⟨hlong, -⟩ | ⟨-, hnil, -⟩ | ⟨t', rest', -, hfree', hf⟩
  · exact absurd hlong (Nat.not_lt.2 hshort)
  · rw [hnil] at hfree; cases hfree
  · obtain ⟨rfl, rfl⟩ := List.cons.inj (hfree.symm.trans hfree')
    rw [hf]
    rfl

/-! ### Broadcasts -/

theorem State.broadcastRequest_miss {s : State} {v : Service} {f : Frame} (hmode : s.ts.mode = .running v)
    (h : (s.nv.bank v.active).lookup f.addr f.fn = none) : s.broadcastRequest f = s.count .notForwarded := by
  simp only [State.broadcastRequest, hmode, h]

theorem State.broadcastRequest_drop {s : State} {v : Service} {f : Frame} {n : SlotNo} {e : Entry}
    (hmode : s.ts.mode = .running v) (h : (s.nv.bank v.active).lookup f.addr f.fn = some (n, e))
    (ha : e.action = .drop) : s.broadcastRequest f = s.count .notForwarded := by
  obtain ⟨keyAddr, keyFn, action⟩ := e
  cases ha
  simp only [State.broadcastRequest, hmode, h]

theorem State.broadcastRequest_forward {s : State} {v : Service} {f : Frame} {n : SlotNo} {e : Entry}
    {p : ForwardParams} (hmode : s.ts.mode = .running v)
    (h : (s.nv.bank v.active).lookup f.addr f.fn = some (n, e)) (ha : e.action = .forward p) :
    s.broadcastRequest f = s.forwardBroadcast p f := by
  obtain ⟨keyAddr, keyFn, action⟩ := e
  cases ha
  simp only [State.broadcastRequest, hmode, h]

/-- A FORWARD broadcast is tested for its length, and then for the places of untracked entries (R65). -/
theorem State.forwardBroadcast_eq (s : State) (p : ForwardParams) (f : Frame) :
    s.forwardBroadcast p f =
      if 32 < p.front.length + f.payload.length then s.count .notForwarded
      else if s.tt.dq.countP DqEntry.isUntracked < 16 then s.enqueueDown (.untracked (p.broadcastFrame f))
      else s.count .congested := by
  unfold State.forwardBroadcast ForwardParams.payloadFor
  rw [List.length_append]
  rfl

/-- Settles O34: the length is tested before the places for untracked entries. -/
theorem broadcastIsQueuedOrDropped : Obligations.BroadcastIsQueuedOrDropped := by
  intro s v f keysw rested hc hmode hme hd he ha
  rw [hc.exec_request keysw rested (fun h => hme (by rw [← State.mgmtAddr_of_running hmode, ← h.2.2, ha])),
    State.takeRequest_broadcast _ hd he ha, ← s.afterFrame_nv .upline keysw]
  rw [← s.afterFrame_ts .upline keysw] at hmode
  refine ⟨fun hmiss => congrArg _ (State.broadcastRequest_miss hmode hmiss), fun n e hhit =>
    ⟨fun hdrop => congrArg _ (State.broadcastRequest_drop hmode hhit hdrop), fun p hp => ?_⟩⟩
  rw [State.broadcastRequest_forward hmode hhit hp, State.forwardBroadcast_eq, State.afterFrame_tt]
  refine ⟨fun hlong => ?_, fun hshort hfull => ?_, fun hshort hroom => ?_⟩
  · rw [if_pos hlong]
  · rw [if_neg (Nat.not_lt.2 hshort), if_neg (Nat.not_lt.2 hfull)]
  · rw [if_neg (Nat.not_lt.2 hshort), if_pos hroom]
    rfl

end Sys2Proof.Machine
end

section
/-! PROOFS. What the laws of the Transaction Tracker speak of (the tracker, the hold list and DT's current
transmission), and that the Table Store's commands and stages leave it as it is. -/

namespace Sys2Proof.Machine

/-- The part of the state that the laws of the tracker speak of. -/
def State.trackerView (s : State) : Tracker × List Tag × Option Current :=
  (s.tt, s.rt.holdList, s.dt.map DownFlight.current)

theorem State.trackerView_eq {s t : State} :
    t.trackerView = s.trackerView ↔ t.tt = s.tt ∧ t.rt.holdList = s.rt.holdList
      ∧ t.dt.map DownFlight.current = s.dt.map DownFlight.current := by
  simp [State.trackerView]

theorem State.tag_of_view {s t : State} (h : t.trackerView = s.trackerView) (g : Tag) : t.tag g = s.tag g := by
  simp only [State.tag, (State.trackerView_eq.1 h).1]

theorem State.sendingTag_eq (s : State) (g : Tag) :
    s.sendingTag g = true ↔ s.dt.map DownFlight.current = some (.tracked g) := by
  rw [s.sendingTag_iff, Option.map_eq_some_iff]

theorem State.sendingTag_of_view {s t : State} (h : t.trackerView = s.trackerView) (g : Tag) :
    t.sendingTag g = s.sendingTag g := by
  rw [Bool.eq_iff_iff, State.sendingTag_eq, State.sendingTag_eq, (State.trackerView_eq.1 h).2.2]

/-! ### What leaves it as it is -/

section Unchanged
variable (s : State)

@[simp] theorem State.count_trackerView (c : Counter) : (s.count c).trackerView = s.trackerView := rfl
@[simp] theorem State.enqueueUp_trackerView (f : Frame) : (s.enqueueUp f).trackerView = s.trackerView := rfl
@[simp] theorem State.clearCounters_trackerView : s.clearCounters.trackerView = s.trackerView := rfl
@[simp] theorem State.withKey_trackerView (level : Bool) : (s.withKey level).trackerView = s.trackerView := rfl

@[simp] theorem State.setReceiver_trackerView (r : Receiver) (line : Line) :
    (s.setReceiver r line).trackerView = s.trackerView := by
  cases line <;> rfl

@[simp] theorem State.setAwaitsHigh_trackerView (b : Bool) (line : Line) :
    (s.setAwaitsHigh b line).trackerView = s.trackerView := by
  cases line <;> rfl

@[simp] theorem State.sendCharacters_trackerView : s.sendCharacters.trackerView = s.trackerView := by
  simp [State.trackerView, Function.comp_def]

@[simp] theorem State.offerSynthesized_trackerView (f : Frame) :
    (s.offerSynthesized f).trackerView = s.trackerView := by
  rcases s.offerSynthesized_cases f with ⟨-, h⟩ | ⟨-, h⟩ <;> simp [h]

@[simp] theorem State.offerManagement_trackerView (f : Frame) :
    (s.offerManagement f).trackerView = s.trackerView := by
  rcases s.offerManagement_cases f with ⟨-, h⟩ | ⟨-, h⟩ <;> rw [h] <;> rfl

@[simp] theorem State.answer_trackerView (c : Counter) (reply : Frame) :
    (s.answer c reply).trackerView = s.trackerView := by
  simp [State.answer]

@[simp] theorem State.conclude_trackerView (q : Received) (a : Answer) :
    (s.conclude q a).trackerView = s.trackerView := State.offerManagement_trackerView _ _

end Unchanged

/-! ### The store at work -/

/-- The store alone has worked between the two states: what the tracker's laws speak of is as it was, and a
live part is live still. -/
structure State.StoreWork (s t : State) : Prop where
  view : t.trackerView = s.trackerView
  live : s.Live → t.Live

theorem State.StoreWork.refl (s : State) : s.StoreWork s := ⟨rfl, id⟩

theorem State.StoreWork.trans {s t u : State} (h : s.StoreWork t) (h' : t.StoreWork u) : s.StoreWork u :=
  ⟨h'.view.trans h.view, h'.live ∘ h.live⟩

theorem State.StoreWork.of_same {s t : State} (hview : t.trackerView = s.trackerView) (h : s.SameStage t) :
    s.StoreWork t := ⟨hview, h.live⟩

section Work
variable (s : State)

theorem State.storeWork_complete (result : LastResult) : s.StoreWork (s.complete result) :=
  .of_same rfl ⟨rfl, rfl, rfl⟩

theorem State.storeWork_completeStage (result : LastResult) : s.StoreWork (s.completeStage result) :=
  .of_same rfl ⟨rfl, rfl, rfl⟩

theorem State.storeWork_accept (last : LastOp) : s.StoreWork (s.accept last) :=
  .of_same rfl ⟨rfl, rfl, rfl⟩

theorem State.storeWork_mapBank (b : BankId) (f : Bank → Bank) : s.StoreWork (s.mapBank b f) :=
  .of_same rfl ⟨rfl, rfl, rfl⟩

theorem State.storeWork_setCell (c : CellId) (x : PointerCell) : s.StoreWork (s.setCell c x) :=
  .of_same rfl ⟨rfl, rfl, rfl⟩

theorem State.storeWork_setOp (op : Option StoreOp) : s.StoreWork (s.setOp op) :=
  .of_same rfl ⟨rfl, rfl, rfl⟩

theorem State.storeWork_setLastCheck (w : Word) : s.StoreWork (s.setLastCheck w) :=
  .of_same rfl ⟨rfl, rfl, rfl⟩

theorem State.storeWork_switchTo (record : PointerRecord) (x : Header) : s.StoreWork (s.switchTo record x) :=
  ⟨rfl, fun h => ⟨h.outOfReset, nofun, h.idle⟩⟩

theorem State.storeWork_eraseProgress : s.StoreWork s.eraseProgress := by
  rw [s.eraseProgress_frame.1]
  exact .of_same rfl ⟨rfl, rfl, rfl⟩

theorem State.storeWork_beginSlotWrite (b : BankId) (n : SlotNo) (op : StoreOp) :
    s.StoreWork (s.beginSlotWrite b n op) :=
  (s.storeWork_mapBank b _).trans (State.storeWork_setOp _ _)

theorem State.storeWork_beginSegmentErase (b : BankId) (n : SegmentNo) (op : StoreOp) :
    s.StoreWork (s.beginSegmentErase b n op) :=
  (s.storeWork_mapBank b _).trans (State.storeWork_setOp _ _)

theorem State.storeWork_programNext (b : BankId) (next : Option (SlotNo × Entry)) :
    s.StoreWork (s.programNext b next) := by
  rcases s.programNext_cases b next with ⟨n, e, -, h⟩ | ⟨-, h⟩ <;> rw [h]
  · exact s.storeWork_beginSlotWrite b n _
  · exact s.storeWork_completeStage _

theorem State.storeWork_copyNext (b : BankId) (g : SegmentNo) (next : Option (SlotNo × Entry)) :
    s.StoreWork (s.copyNext b g next) := by
  rcases s.copyNext_cases b g next with ⟨n, e, -, h⟩ | ⟨-, h⟩ <;> rw [h]
  · exact s.storeWork_beginSlotWrite b n _
  · exact s.storeWork_complete _

theorem State.storeWork_eraseNext (b : BankId) (override : Bool) (from' : Nat) :
    s.StoreWork (s.eraseNext b override from') := by
  rcases s.eraseNext_cases b override from' with ⟨m, -, h⟩ | h <;> rw [h]
  · exact s.storeWork_beginSegmentErase b m _
  · exact s.storeWork_complete _

end Work

/-- A management command is the store's work, or flushes the tracker (R173 to R183). -/
theorem Command.run_storeWork (f : Frame) (s : State) (c : Command) :
    s.StoreWork (c.run f s).2 ∨ (c.run f s).2 = s.flush := by
  have reply : ∀ (payload : State → List Byte) (x : Except Declined State),
      (∀ t, x = .ok t → s.StoreWork t) →
      s.StoreWork (s.storeReply payload x).2 ∨ (s.storeReply payload x).2 = s.flush := by
    intro payload x hx
    rcases s.storeReply_cases payload x with ⟨t, ht, h⟩ | ⟨d, -, h⟩ <;> rw [h]
    · exact .inl (hx t ht)
    · exact .inl (.refl s)
  cases c with
  | readStatus | readCounters | readTracker | readSegments => exact .inl (.refl s)
  | readAndClearCounters => exact .inl (.of_same rfl ⟨rfl, rfl, rfl⟩)
  | readEntry | readHeader => exact .inl s.storeWork_eraseProgress
  | flushTracker => exact .inr rfl
  | restart =>
    refine .inl ?_
    simp only [Command.run, State.requestRestart]
    split
    · exact .refl s
    · exact .of_same rfl ⟨rfl, rfl, rfl⟩
  | stageEntry n image =>
    refine reply _ _ fun t ht => ?_
    obtain ⟨e, b, -, -, -, rfl⟩ := State.stageEntry_ok ht
    exact .of_same rfl ⟨rfl, rfl, rfl⟩
  | discardStage =>
    refine reply _ _ fun t ht => ?_
    obtain ⟨-, rfl⟩ := State.discardStage_ok ht
    exact .of_same rfl ⟨rfl, rfl, rfl⟩
  | clearFault =>
    refine reply _ _ fun t ht => ?_
    obtain ⟨-, rfl⟩ := State.clearFault_ok ht
    exact .of_same rfl ⟨rfl, rfl, rfl⟩
  | programStage =>
    refine reply _ _ fun t ht => ?_
    obtain ⟨p, entries, -, -, -, -, ⟨-, rfl⟩ | ⟨-, rfl⟩⟩ := State.programStage_ok ht
    · exact (s.storeWork_accept _).trans (State.storeWork_programNext _ _ _)
    · exact (s.storeWork_accept _).trans (State.storeWork_completeStage _ _)
  | programHeader image =>
    refine reply _ _ fun t ht => ?_
    obtain ⟨x, -, -, -, ⟨-, rfl⟩ | ⟨-, rfl⟩⟩ := State.programHeader_ok ht
    · exact ((s.storeWork_accept _).trans (State.storeWork_mapBank _ _ _)).trans (State.storeWork_setOp _ _)
    · exact (s.storeWork_accept _).trans (State.storeWork_complete _ _)
  | eraseSegment n flag =>
    refine reply _ _ fun t ht => ?_
    obtain ⟨override, -, -, -, -, -, rfl⟩ := State.eraseSegment_ok ht
    exact (s.storeWork_accept _).trans (State.storeWork_beginSegmentErase _ _ _ _)
  | eraseBank flag =>
    refine reply _ _ fun t ht => ?_
    obtain ⟨override, -, -, -, -, rfl⟩ := State.eraseBank_ok ht
    exact (s.storeWork_accept _).trans (State.storeWork_setOp _ _)
  | copySegment n =>
    refine reply _ _ fun t ht => ?_
    obtain ⟨a, -, -, -, -, ⟨-, rfl⟩ | ⟨-, rfl⟩⟩ := State.copySegment_ok ht
    · exact (s.storeWork_accept _).trans (State.storeWork_copyNext _ _ _ _)
    · exact (s.storeWork_accept _).trans (State.storeWork_complete _ _)
  | lockSegment b n =>
    refine reply _ _ fun t ht => ?_
    obtain ⟨-, -, ⟨-, rfl⟩ | ⟨-, rfl⟩⟩ := State.lockSegment_ok ht
    · exact (s.storeWork_accept _).trans (State.storeWork_complete _ _)
    · exact ((s.storeWork_accept _).trans (State.storeWork_mapBank _ _ _)).trans (State.storeWork_setOp _ _)
  | checkBank =>
    refine reply _ _ fun t ht => ?_
    obtain ⟨-, -, rfl⟩ := State.checkBank_ok ht
    exact (s.storeWork_accept _).trans (State.storeWork_setOp _ _)
  | commit w =>
    refine reply _ _ fun t ht => ?_
    obtain ⟨-, -, ⟨-, rfl⟩ | ⟨-, rfl⟩⟩ := State.commit_ok ht
    · exact (s.storeWork_accept _).trans (State.storeWork_setOp _ _)
    · exact (s.storeWork_accept _).trans (State.storeWork_complete _ _)

/-- The end of a stage of the store is the store's work (R125 to R158). -/
theorem exec_storeStage_work {c : Instr} {s t : State} (hc : isStageEvent c = true)
    (hstart : ¬ (c = .startUpScan ∨ c = .pointerSelection)) (h : exec c s = .next t) : s.StoreWork t := by
  cases c with
  | elementWriteEnd image =>
    change execElementWriteEnd image s = _ at h
    unfold execElementWriteEnd at h
    split at h
    · obtain rfl := Host.Outcome.next.inj h
      split
      · exact (s.storeWork_mapBank _ _).trans (State.storeWork_programNext _ _ _)
      · exact (s.storeWork_mapBank _ _).trans (State.storeWork_completeStage _ _)
    · obtain rfl := Host.Outcome.next.inj h
      split <;> exact (s.storeWork_mapBank _ _).trans (State.storeWork_complete _ _)
    · obtain rfl := Host.Outcome.next.inj h
      split
      · exact (s.storeWork_mapBank _ _).trans (State.storeWork_copyNext _ _ _ _)
      · exact (s.storeWork_mapBank _ _).trans (State.storeWork_complete _ _)
    · cases h
  | segmentEraseEnd =>
    change execSegmentEraseEnd s = _ at h
    unfold execSegmentEraseEnd at h
    split at h
    · obtain rfl := Host.Outcome.next.inj h
      exact (s.storeWork_mapBank _ _).trans (State.storeWork_complete _ _)
    · obtain rfl := Host.Outcome.next.inj h
      exact (s.storeWork_mapBank _ _).trans (State.storeWork_eraseNext _ _ _ _)
    · cases h
  | headerEraseEnd =>
    change execHeaderEraseEnd s = _ at h
    unfold execHeaderEraseEnd at h
    split at h
    · obtain rfl := Host.Outcome.next.inj h
      exact (s.storeWork_mapBank _ _).trans (State.storeWork_eraseNext _ _ _ _)
    · cases h
  | lockWriteEnd =>
    change execLockWriteEnd s = _ at h
    unfold execLockWriteEnd at h
    split at h
    · obtain rfl := Host.Outcome.next.inj h
      exact s.storeWork_complete _
    · cases h
  | checkBankComplete =>
    change execCheckBankComplete s = _ at h
    unfold execCheckBankComplete at h
    split at h
    · obtain rfl := Host.Outcome.next.inj h
      exact (s.storeWork_setLastCheck _).trans (State.storeWork_complete _ _)
    · cases h
  | commitCheckStageEnd =>
    change execCommitCheckStageEnd s = _ at h
    unfold execCommitCheckStageEnd at h
    split at h
    · obtain rfl := Host.Outcome.next.inj h
      split
      · exact ((s.storeWork_setLastCheck _).trans (State.storeWork_setCell _ _ _)).trans
          (State.storeWork_setOp _ _)
      · exact (s.storeWork_setLastCheck _).trans (State.storeWork_complete _ _)
    · cases h
  | pointerWriteStart =>
    change execPointerWriteStart s = _ at h
    unfold execPointerWriteStart at h
    split at h
    · obtain rfl := Host.Outcome.next.inj h
      exact (s.storeWork_setCell _ _).trans (State.storeWork_setOp _ _)
    · cases h
  | pointerVerify q =>
    change execPointerVerify q s = _ at h
    unfold execPointerVerify at h
    split at h
    · split at h
      · split at h
        · obtain rfl := Host.Outcome.next.inj h
          exact (s.storeWork_switchTo _ _).trans (State.storeWork_complete _ _)
        · cases h
      · obtain rfl := Host.Outcome.next.inj h
        exact s.storeWork_complete _
    · cases h
  | startUpScan | pointerSelection => simp at hstart
  | _ => cases hc

end Sys2Proof.Machine
end

section
/-! PROOFS. Everything a command can do to the tracker, the hold list and DT's current transmission, said once
(`TrackerMove`): the commands of the lines, the timers and the store brought into that form. -/

namespace Sys2Proof.Machine

/-- Nothing is tracked, queued, held or sent, and every tag is in the quiet period, or waits for it
(R73, R96). -/
structure State.Swept (s : State) : Prop where
  tags : ∀ g, s.tag g = .quiet
  freeList : s.tt.freeList = []
  dq : s.tt.dq = []
  holdList : s.rt.holdList = []
  dt : s.dt = none

/-- What the command `c` does to the tracker, as far as its laws speak of it. -/
inductive State.TrackerMove (s : State) (c : Instr) : State → Prop
  /-- Nothing. -/
  | unchanged : s.TrackerMove c s
  /-- A request is admitted (R59). -/
  | admitted {g : Tag} {rest : List Tag} {r : Record} (hfree : s.tt.freeList = g :: rest)
      (hstate : r.state = .waitLine) (hkey : ∀ u q, s.tag u = .busy q → q.key ≠ r.key) :
      s.TrackerMove c (s.admitRecord g rest r)
  /-- A broadcast is queued (R65). -/
  | broadcast {f : Frame} (hroom : s.tt.dq.countP DqEntry.isUntracked < 16) :
      s.TrackerMove c (s.enqueueDown (.untracked f))
  /-- A reply is delivered for a record in AWAIT_REPLY or in SENDING (R87, R89, R82). -/
  | answered {g : Tag} {r : Record} {reply : Frame} {o : Origin} (htag : s.tag g = .busy r)
      (hstate : r.state = .awaitReply ∨ r.state = .sending ∧ o = .stationInSending) :
      s.TrackerMove c (s.deliver g r reply o)
  /-- A reply is delivered for a record in WAIT_LINE, whose entry is withdrawn (R88). -/
  | withdrawn {g : Tag} {r : Record} {reply : Frame} (htag : s.tag g = .busy r) (hstate : r.state = .waitLine) :
      s.TrackerMove c ((s.withdraw g).deliver g r reply .station)
  /-- The reply held longest moves into the freed place (R110). -/
  | moved {g : Tag} {rest : List Tag} {r : Record} {reply : Frame} {o : Origin}
      (hhold : s.rt.holdList = g :: rest) (htag : s.tag g = .busy r) (hstate : r.state = .held reply o) :
      s.TrackerMove c (({ s with rt := { s.rt with holdList := rest } }.enqueueUp reply).endRecord g r o)
  /-- A record is queued again as its reply timer expires (R81). -/
  | retransmitted {g : Tag} {r : Record} (hc : c = .replyTimerExpiry g) (htag : s.tag g = .busy r)
      (hstate : r.state = .awaitReply) : s.TrackerMove c (s.retransmit g r)
  /-- A tag leaves its quarantine (R71). -/
  | expired {g : Tag} {captured : Byte} (htag : s.tag g = .quarantine captured) :
      s.TrackerMove c (s.freeTag g)
  /-- The quiet period ends (R74). -/
  | quietEnded (htimer : s.tt.quietTimer.isSome = true) :
      s.TrackerMove c { s with tt := { s.tt with
        tags := Vector.replicate 32 .free, freeList := List.finRange 32, quietTimer := none } }
  /-- DT takes a tracked entry (R78). -/
  | taken {g : Tag} {rest : List DqEntry} {r : Record} (hidle : s.dt = none)
      (hqueue : s.tt.dq = .tracked g :: rest) (htag : s.tag g = .busy r) :
      s.TrackerMove c { State.setTag { s with tt := { s.tt with dq := rest } } g
          (.busy { r with state := .sending }) with
        dt := some (DownFlight.start (r.downFrame g) (.tracked g)) }
  /-- DT takes an untracked entry (R78). -/
  | takenUntracked {f : Frame} {rest : List DqEntry} (hidle : s.dt = none)
      (hqueue : s.tt.dq = .untracked f :: rest) :
      s.TrackerMove c { s with tt := { s.tt with dq := rest }, dt := some (DownFlight.start f .untracked) }
  /-- DT reports its frame sent (R79, R93). -/
  | reported {d : DownFlight} (hdt : s.dt = some d) :
      s.TrackerMove c (State.reportSent { s with dt := none } d.current)
  /-- The tracker is flushed (R94, R112). -/
  | flushed : s.TrackerMove c s.flush
  /-- A restart, reset or the loss of power sweeps all of it (R96, R97, R185). -/
  | swept {t : State} (ht : t.Swept) : s.TrackerMove c t

/-- A move between two states that differ from `s` and `t` in nothing the tracker's laws speak of. -/
def State.TrackerMoves (s : State) (c : Instr) (t : State) : Prop :=
  ∃ u v : State, u.trackerView = s.trackerView ∧ t.trackerView = v.trackerView ∧ u.TrackerMove c v

section Moves
variable {s t : State} {c : Instr}

theorem State.TrackerMove.moves (h : s.TrackerMove c t) : s.TrackerMoves c t := ⟨s, t, rfl, rfl, h⟩

theorem State.TrackerMoves.of_view (h : t.trackerView = s.trackerView) : s.TrackerMoves c t :=
  ⟨s, s, rfl, h, .unchanged⟩

theorem State.TrackerMoves.from_view {s' : State} (h : s'.TrackerMoves c t)
    (hs : s'.trackerView = s.trackerView) : s.TrackerMoves c t := by
  obtain ⟨u, v, hu, ht, hm⟩ := h
  exact ⟨u, v, hu.trans hs, ht, hm⟩

theorem State.TrackerMoves.of_swept (h : t.Swept) : s.TrackerMoves c t := (State.TrackerMove.swept h).moves

end Moves

/-! ### Sweeps -/

theorem State.swept_of_powerOn {s : State} (htt : s.tt = .powerOn) (hhold : s.rt.holdList = [])
    (hdt : s.dt = none) : s.Swept :=
  ⟨fun g => by rw [State.tag, htt]; exact get_replicate _ g, by rw [htt]; rfl, by rw [htt]; rfl, hhold, hdt⟩

theorem State.Quiescent.swept {s : State} (h : s.Quiescent) : s.Swept :=
  State.swept_of_powerOn h.tracker (by rw [h.returnPath]; rfl) h.transmitters.2.2

theorem State.restart_swept (s : State) : s.restart.Swept :=
  ⟨fun g => get_replicate _ g, rfl, rfl, rfl, rfl⟩

theorem State.restartCutsShort_swept (s : State) : s.restartCutsShort.Swept := by
  rcases s.restartCutsShort_cases with ⟨-, h⟩ | ⟨x, -, h⟩ <;> rw [h]
  · exact s.restart_swept
  · exact { s.restart_swept with }

/-! ### Requests -/

/-- A request under a key that no record has is fresh for every record (R51, R75). -/
theorem State.key_ne_of_not_duplicate {s : State} {f : Frame} (h : s.duplicate f = false) {v : Service}
    {n : SlotNo} {p : ForwardParams} {u : Tag} {q : Record} (hq : s.tag u = .busy q) :
    q.key ≠ (v.recordFor n p f).key := by
  intro hkey
  simp only [Record.key, Service.recordFor, Prod.mk.injEq] at hkey
  rw [(s.duplicate_iff f).2 ⟨u, q, hq, hkey⟩] at h
  cases h

theorem State.stationRequest_moves (s : State) (f : Frame) (c : Instr) :
    s.TrackerMoves c (s.stationRequest f) := by
  unfold State.stationRequest
  split
  · exact .of_view rfl
  · exact .of_view (by simp)
  · rename_i v _
    cases hd : s.duplicate f with
    | true => exact .of_view (by simp)
    | false =>
      simp only [Bool.false_eq_true, if_false]
      rcases s.translate_cases v f with h | ⟨exc, payload, h⟩ | ⟨n, e, p, -, -, h⟩
      · exact .of_view (by simp [h])
      · exact .of_view (by simp [h])
      · rw [h]
        rcases s.forward_cases v n p f with ⟨-, h'⟩ | ⟨-, -, h'⟩ | ⟨g, rest, -, hfree, h'⟩
        · exact .of_view (by simp [h'])
        · exact .of_view (by simp [h'])
        · rw [h']
          exact (State.TrackerMove.admitted hfree rfl fun u q => State.key_ne_of_not_duplicate hd).moves

theorem State.takeRequest_moves (s : State) (f : Frame) (c : Instr) : s.TrackerMoves c (s.takeRequest f) := by
  unfold State.takeRequest
  split
  · exact .of_view (by simp)
  · rcases s.broadcastRequest_cases f with h | h | h | ⟨p, hroom, h⟩
    · exact .of_view (by simp [h])
    · exact .of_view (by simp [h])
    · exact .of_view (by simp [h])
    · rw [h]; exact (State.TrackerMove.broadcast hroom).moves
  · exact s.stationRequest_moves f c

/-! ### Replies and management requests -/

theorem State.takeReply_moves (s : State) (f : Frame) (c : Instr) : s.TrackerMoves c (s.takeReply f) := by
  unfold State.takeReply
  split
  · rename_i hreply
    rcases s.matchReply_cases ⟨f.seq.toNat, hreply.2⟩ f with
      h | h | ⟨r, htag, -, ⟨hstate, h⟩ | ⟨hstate, h⟩ | ⟨hstate, h⟩⟩
    · exact .of_view (by simp [h])
    · exact .of_view (by simp [h])
    · rw [h]; exact (State.TrackerMove.answered htag (.inl hstate)).moves
    · rw [h]; exact (State.TrackerMove.withdrawn htag hstate).moves
    · rw [h]; exact (State.TrackerMove.answered htag (.inr ⟨hstate, rfl⟩)).moves
  · exact .of_view (by simp)

theorem State.execute_moves (s : State) (q : Received) (c : Instr) : s.TrackerMoves c (s.execute q) := by
  unfold State.execute
  split
  · exact .of_view (by simp)
  · rename_i cmd _
    rcases Command.run_storeWork q.frame s cmd with h | h
    · exact .of_view (by rw [State.conclude_trackerView]; exact h.view)
    · exact ⟨s, s.flush, rfl, by rw [State.conclude_trackerView, h], .flushed⟩

theorem State.takeManagement_moves (s : State) (q : Received) (c : Instr) :
    s.TrackerMoves c (s.takeManagement q) := by
  unfold State.takeManagement
  split
  · exact .of_view rfl
  · exact .of_view rfl
  · split
    · exact .of_view (by simp)
    · unfold State.replayOrExecute
      split
      · split
        · exact .of_view (by simp)
        · exact s.execute_moves q c
      · exact s.execute_moves q c

theorem State.handOn_moves (s : State) (q : Received) (line : Line) (c : Instr) :
    s.TrackerMoves c (s.handOn q line) := by
  cases line with
  | downline => exact s.takeReply_moves q.frame c
  | upline =>
    change s.TrackerMoves c (s.handOnUpline q)
    rcases s.handOnUpline_cases q with ⟨-, -, -, h⟩ | ⟨-, h⟩ <;> rw [h]
    · exact s.takeManagement_moves q c
    · exact s.takeRequest_moves q.frame c

/-! ### The commands of the lines -/

theorem State.receive_moves (s : State) (line : Line) (x : Receiver × Arrival) (c : Instr) :
    s.TrackerMoves c (s.receive line x) := by
  rcases s.receive_cases line x with ⟨-, h⟩ | ⟨-, h⟩ | ⟨-, h⟩ | ⟨q, -, h⟩
  · exact .of_view (by simp [h])
  · exact .of_view (by simp [h])
  · exact .of_view (by simp [h])
  · rw [h]
    exact (State.handOn_moves _ q line c).from_view (by simp)

theorem execCharacter_moves {s t : State} {fall : Fall} {byte : Byte} {lead keysw : Bool} {c : Instr}
    (h : execCharacter fall byte lead keysw s = .next t) : s.TrackerMoves c t := by
  obtain rfl := Host.Outcome.next.inj h
  have key : ((s.withKey keysw).setAwaitsHigh false fall.line).trackerView = s.trackerView := by simp
  split
  · simp only
    split
    · exact (State.receive_moves ((s.withKey keysw).setAwaitsHigh false fall.line) fall.line _ c).from_view key
    · exact .of_view key
  · exact .of_view rfl

theorem execCharacterError_moves {s t : State} {fall : Fall} {c : Instr}
    (h : execCharacterError fall s = .next t) : s.TrackerMoves c t := by
  obtain rfl := Host.Outcome.next.inj h
  split
  · simp only
    split
    · exact (State.receive_moves _ _ _ c).from_view (by simp)
    · exact .of_view (by simp)
  · exact .of_view rfl

/-- What the arbiter does, followed by the restart if it is due (R23, R109). -/
theorem State.arbitrate_moves {s t : State} {c : Instr} (h : settled s.arbitrate = .next t) :
    s.TrackerMoves c t := by
  cases ha : s.arbitrate with
  | fault r => rw [ha] at h; cases h
  | refused r => rw [ha] at h; cases h
  | next u =>
    rw [ha, settled_next] at h
    obtain rfl := Host.Outcome.next.inj h
    split
    · exact .of_swept u.restartCutsShort_swept
    · rcases State.arbitrate_next ha with ⟨f, -, rfl⟩ | ⟨-, -, rfl⟩
        | ⟨g, rest, r, reply, o, -, hhold, htag, hstate, rfl⟩
      · exact .of_view rfl
      · exact .of_view rfl
      · exact (State.TrackerMove.moved hhold htag hstate).moves

theorem execUtTake_moves {s t : State} {c : Instr} (h : execUtTake s = .next t) : s.TrackerMoves c t := by
  unfold execUtTake at h
  split at h
  · cases h
  split at h
  · rw [settled_next] at h
    obtain rfl := Host.Outcome.next.inj h
    split
    · exact .of_swept s.restartCutsShort_swept
    · exact .of_view rfl
  · exact (State.arbitrate_moves h).from_view rfl

theorem execUplineFrameSent_moves {s t : State} {c : Instr} (h : execUplineFrameSent s = .next t) :
    s.TrackerMoves c t := by
  unfold execUplineFrameSent at h
  split at h
  · cases h
  · obtain rfl := Host.Outcome.next.inj h
    split
    · rcases s.restartReported_cases with ⟨-, h⟩ | ⟨-, -, h⟩ <;> rw [h]
      · exact .of_swept s.restart_swept
      · exact .of_view rfl
    · exact .of_view rfl

theorem execDtTake_moves {s t : State} {c : Instr} (h : execDtTake s = .next t) : s.TrackerMoves c t := by
  unfold execDtTake at h
  split at h
  · cases h
  rename_i hidle
  split at h
  · obtain rfl := Host.Outcome.next.inj h
    exact .of_view rfl
  · rename_i g rest hqueue
    obtain ⟨r, htag, rfl⟩ := State.sendTracked_next h
    exact (State.TrackerMove.taken hidle hqueue htag).moves
  · rename_i f rest hqueue
    obtain rfl := Host.Outcome.next.inj h
    exact (State.TrackerMove.takenUntracked hidle hqueue).moves

theorem execDownlineFrameSent_moves {s t : State} {c : Instr} (h : execDownlineFrameSent s = .next t) :
    s.TrackerMoves c t := by
  unfold execDownlineFrameSent at h
  split at h
  · cases h
  · rename_i d hdt
    obtain rfl := Host.Outcome.next.inj h
    exact (State.TrackerMove.reported hdt).moves

/-! ### The timers -/

theorem execReplyTimerExpiry_moves {s t : State} {g : Tag} (h : execReplyTimerExpiry g s = .next t) :
    s.TrackerMoves (.replyTimerExpiry g) t := by
  unfold execReplyTimerExpiry at h
  split at h
  · rename_i r htag
    split at h
    · rename_i hstate
      obtain rfl := Host.Outcome.next.inj h
      split
      · exact (State.TrackerMove.retransmitted rfl htag hstate).moves
      · exact ⟨s.count .noReply, _, rfl, rfl, .answered htag (.inl hstate)⟩
    · cases h
  · cases h

theorem execQuarantineExpiry_moves {s t : State} {g : Tag} {c : Instr}
    (h : execQuarantineExpiry g s = .next t) : s.TrackerMoves c t := by
  unfold execQuarantineExpiry at h
  split at h
  · rename_i captured htag
    obtain rfl := Host.Outcome.next.inj h
    exact (State.TrackerMove.expired htag).moves
  · cases h

theorem execQuietPeriodExpiry_moves {s t : State} {c : Instr} (h : execQuietPeriodExpiry s = .next t) :
    s.TrackerMoves c t := by
  unfold execQuietPeriodExpiry at h
  split at h
  · rename_i n hn
    obtain rfl := Host.Outcome.next.inj h
    exact (State.TrackerMove.quietEnded (by rw [hn]; rfl)).moves
  · cases h

/-! ### Power, RESET_N and start-up -/

theorem exec_powerEvent_moves {c : Instr} {s t : State} (hc : isPowerEvent c = true) (h : exec c s = .next t) :
    s.TrackerMoves c t := by
  cases c with
  | powerOn rate madr =>
    change execPowerOn rate madr s = _ at h
    unfold execPowerOn at h
    split at h
    · cases h
    · obtain rfl := Host.Outcome.next.inj h
      split <;> exact .of_swept (State.swept_of_powerOn rfl rfl rfl)
  | powerFail =>
    change execPowerFail s = _ at h
    unfold execPowerFail at h
    split at h
    · obtain rfl := Host.Outcome.next.inj h
      exact .of_swept (State.swept_of_powerOn rfl rfl rfl)
    · cases h
  | resetNFall =>
    change execResetNFall s = _ at h
    unfold execResetNFall at h
    split at h
    · obtain rfl := Host.Outcome.next.inj h
      split
      · exact .of_swept (State.swept_of_powerOn rfl rfl rfl)
      · exact .of_view rfl
    · cases h
  | resetNRelease rate madr =>
    change execResetNRelease rate madr s = _ at h
    unfold execResetNRelease at h
    split at h
    · cases h
    · obtain rfl := Host.Outcome.next.inj h
      split
      · exact .of_swept (State.swept_of_powerOn rfl rfl rfl)
      · exact .of_view rfl
  | _ => cases hc

/-- Pointer selection goes on, or STARTING ends and the quiet period takes every tag (R163, R164). -/
theorem State.select_tracker (s : State) (cells : List CellId) :
    (s.select cells).rt = s.rt ∧ (s.select cells).dt = s.dt
      ∧ ((s.select cells).tt = s.tt ∨ ∃ n, (s.select cells).tt =
          { s.tt with tags := Vector.replicate 32 .quiet, freeList := [], quietTimer := some n }) := by
  rcases s.select_cases cells with ⟨u, -, -, -, -, h⟩ | ⟨u, _, _, _, _, -, -, -, -, -, -, -, h⟩ <;> rw [h]
  · exact ⟨rfl, rfl, .inr ⟨_, rfl⟩⟩
  · exact ⟨rfl, rfl, .inl rfl⟩

theorem exec_startUp_tracker {c : Instr} {s t : State} (hc : c = .startUpScan ∨ c = .pointerSelection)
    (h : exec c s = .next t) :
    s.ts.startUp ≠ .idle ∧ t.rt = s.rt ∧ t.dt = s.dt
      ∧ (t.tt = s.tt ∨ ∃ n, t.tt =
          { s.tt with tags := Vector.replicate 32 .quiet, freeList := [], quietTimer := some n }) := by
  rcases hc with rfl | rfl
  · change execStartUpScan s = _ at h
    unfold execStartUpScan at h
    split at h
    · rename_i hst
      obtain rfl := Host.Outcome.next.inj h
      refine ⟨by rw [hst]; nofun, ?_⟩
      have := s.scan.select_tracker s.nv.candidates
      rw [s.scan_eq] at this ⊢
      exact this
    · cases h
  · change execPointerSelection s = _ at h
    unfold execPointerSelection at h
    split at h
    · rename_i cell untried hst
      refine ⟨by rw [hst]; nofun, ?_⟩
      split at h
      · obtain rfl := Host.Outcome.next.inj h
        exact ⟨rfl, rfl, .inr ⟨_, rfl⟩⟩
      · obtain rfl := Host.Outcome.next.inj h
        exact (s.startUpFault .activeCheckFail).select_tracker untried
    · cases h

/-! ### Everything a command can do to the tracker -/

/-- Every command but the two of start-up makes one of the tracker's moves. -/
theorem exec_trackerMoves {c : Instr} {s t : State} (hstart : ¬ (c = .startUpScan ∨ c = .pointerSelection))
    (h : exec c s = .next t) : s.TrackerMoves c t := by
  cases hp : isPowerEvent c with
  | true => exact exec_powerEvent_moves hp h
  | false =>
    cases hc : isStageEvent c with
    | true => exact .of_view (exec_storeStage_work hc hstart h).view
    | false =>
      cases c with
      | character fall byte lead keysw => exact execCharacter_moves h
      | characterError fall => exact execCharacterError_moves h
      | gapTimerExpiry line =>
        change execGapTimerExpiry line s = _ at h
        unfold execGapTimerExpiry at h
        split at h
        · obtain rfl := Host.Outcome.next.inj h
          exact s.receive_moves line _ _
        · cases h
      | utTake => exact execUtTake_moves h
      | uplineFrameSent => exact execUplineFrameSent_moves h
      | dtTake => exact execDtTake_moves h
      | downlineFrameSent => exact execDownlineFrameSent_moves h
      | replyTimerExpiry g => exact execReplyTimerExpiry_moves h
      | quarantineExpiry g => exact execQuarantineExpiry_moves h
      | quietPeriodExpiry => exact execQuietPeriodExpiry_moves h
      | startBit fall =>
        obtain rfl := Host.Outcome.next.inj h
        split
        · exact .of_view (by simp)
        · exact .of_view rfl
      | powerOn | powerFail | resetNFall | resetNRelease => cases hp
      | _ => cases hc

end Sys2Proof.Machine
end

section
/-! PROOFS. What the moves of the tracker make of the records: a record keeps what was captured at its
admission (R60, R75), and no two have one upline key (R75). -/

namespace Sys2Proof.Machine

/-! ### BUSY tags after each operation -/

section Busy
variable {s : State} {g u : Tag} {r q : Record}

theorem State.busy_of_setTag {x : TagState} (h : (s.setTag g x).tag u = .busy q) :
    g = u ∧ x = .busy q ∨ s.tag u = .busy q := by
  rw [s.tag_setTag] at h
  split at h
  · exact .inl ⟨‹_›, h⟩
  · exact .inr h

theorem State.busy_of_freeTag (h : (s.freeTag g).tag u = .busy q) : s.tag u = .busy q := by
  rw [s.tag_freeTag] at h
  split at h
  · cases h
  · exact h

/-- A tag is BUSY after a record's end only if it was before (R92). -/
theorem State.busy_of_endRecord {o : Origin} (h : (s.endRecord g r o).tag u = .busy q) :
    s.tag u = .busy q := by
  rcases s.endRecord_cases g r o with ⟨-, h'⟩ | ⟨-, -, -, h'⟩ | ⟨-, -, h'⟩ <;> rw [h'] at h
  · rcases State.busy_of_setTag h with ⟨-, h⟩ | h
    · cases h
    · exact h
  · exact State.busy_of_freeTag h
  · rcases State.busy_of_setTag h with ⟨-, h⟩ | h
    · cases h
    · exact h

/-- A tag is BUSY after a delivery only if it was before, its record the same but for the reply held (R90). -/
theorem State.busy_of_deliver {reply : Frame} {o : Origin} (h : (s.deliver g r reply o).tag u = .busy q) :
    g = u ∧ q = { r with state := .held reply o } ∨ s.tag u = .busy q := by
  rcases s.deliver_cases g r reply o with ⟨-, h'⟩ | ⟨-, h'⟩ <;> rw [h'] at h
  · exact .inr (State.busy_of_endRecord (s := s.enqueueUp reply) h)
  · have h : (s.setTag g (.busy { r with state := .held reply o })).tag u = .busy q := h
    rcases State.busy_of_setTag h with ⟨hu, hx⟩ | h
    · exact .inl ⟨hu, (TagState.busy.inj hx).symm⟩
    · exact .inr h

theorem TagState.reportedSent_busy {x : TagState} (h : x.reportedSent = .busy q) :
    ∃ r, x = .busy r ∧ q = { r with state := q.state } := by
  rcases x.reportedSent_cases with ⟨r, hx, -, hsent⟩ | ⟨_, -, hsent⟩ | ⟨-, -, hsent⟩ <;> rw [hsent] at h
  · obtain rfl := TagState.busy.inj h
    exact ⟨r, hx, rfl⟩
  · cases h
  · exact ⟨q, h, rfl⟩

end Busy

/-! ### Where the records of a move come from -/

/-- The record of a tag after a move: the record it had, in whatever record state; that record queued again
as its own reply timer expired; or a record just admitted. -/
inductive State.RecordFrom (s : State) (c : Instr) (g : Tag) (q : Record) : Prop
  | kept {r : Record} (htag : s.tag g = .busy r) (hq : q = { r with state := q.state })
  | retransmitted {r : Record} (hc : c = .replyTimerExpiry g) (htag : s.tag g = .busy r)
      (hq : q = { r with state := q.state, retransmissions := r.retransmissions + 1 })
  | admitted {rest : List Tag} (hfree : s.tt.freeList = g :: rest)
      (hkey : ∀ u r, s.tag u = .busy r → r.key ≠ q.key)

/-- Every record that a move leaves comes from one of these. -/
theorem State.TrackerMove.recordFrom {s t : State} {c : Instr} (h : s.TrackerMove c t) {u : Tag} {q : Record}
    (hq : t.tag u = .busy q) : s.RecordFrom c u q := by
  have same : s.tag u = .busy q → s.RecordFrom c u q := fun h => .kept h rfl
  cases h with
  | unchanged => exact same hq
  | @admitted g rest r hfree hstate hkey =>
    have hq : (s.setTag g (.busy r)).tag u = .busy q := hq
    rcases State.busy_of_setTag hq with ⟨rfl, hx⟩ | h
    · obtain rfl := TagState.busy.inj hx
      exact .admitted hfree hkey
    · exact same h
  | broadcast hroom => exact same hq
  | answered htag hstate =>
    rcases State.busy_of_deliver hq with ⟨rfl, rfl⟩ | h
    · exact .kept htag rfl
    · exact same h
  | withdrawn htag hstate =>
    rcases State.busy_of_deliver hq with ⟨rfl, rfl⟩ | h
    · exact .kept htag rfl
    · exact same h
  | moved hhold htag hstate =>
    have h := State.busy_of_endRecord hq
    exact same h
  | @retransmitted g r hc htag hstate =>
    have hq : (s.setTag g (.busy { r with
      state := .waitLine, retransmissions := r.retransmissions + 1 })).tag u = .busy q := hq
    rcases State.busy_of_setTag hq with ⟨rfl, hx⟩ | h
    · obtain rfl := TagState.busy.inj hx
      exact .retransmitted hc htag rfl
    · exact same h
  | expired htag => exact same (State.busy_of_freeTag hq)
  | quietEnded htimer =>
    have : TagState.free = .busy q := (get_replicate _ u).symm.trans hq
    cases this
  | @taken g rest r hidle hqueue htag =>
    have hq : (s.setTag g (.busy { r with state := .sending })).tag u = .busy q := hq
    rcases State.busy_of_setTag hq with ⟨rfl, hx⟩ | h
    · obtain rfl := TagState.busy.inj hx
      exact .kept htag rfl
    · exact same h
  | takenUntracked hidle hqueue => exact same hq
  | @reported d hdt =>
    revert hq
    cases d.current with
    | untracked => exact same
    | tracked g =>
      intro hq
      rcases State.busy_of_setTag hq with ⟨rfl, hx⟩ | h
      · obtain ⟨r, htag, hr⟩ := TagState.reportedSent_busy hx
        exact .kept htag hr
      · exact same h
  | flushed =>
    rw [s.tag_flush] at hq
    revert hq
    cases htag : s.tag u with
    | busy r => cases s.sendingTag u <;> exact nofun
    | _ => exact nofun
  | swept ht =>
    rw [ht.tags u] at hq; cases hq

theorem State.RecordFrom.of_view {s s' : State} {c : Instr} {g : Tag} {q : Record} (h : s'.RecordFrom c g q)
    (hs : s'.trackerView = s.trackerView) : s.RecordFrom c g q := by
  have htags := State.tag_of_view hs
  cases h with
  | kept htag hq => exact .kept ((htags g).symm.trans htag) hq
  | retransmitted hc htag hq => exact .retransmitted hc ((htags g).symm.trans htag) hq
  | admitted hfree hkey =>
    rw [(State.trackerView_eq.1 hs).1] at hfree
    exact .admitted hfree fun u r hr => hkey u r ((htags u).trans hr)

theorem State.TrackerMoves.recordFrom {s t : State} {c : Instr} (h : s.TrackerMoves c t) {u : Tag} {q : Record}
    (hq : t.tag u = .busy q) : s.RecordFrom c u q := by
  obtain ⟨s', t', hs, ht, hm⟩ := h
  exact (hm.recordFrom ((State.tag_of_view ht u).symm.trans hq)).of_view hs

/-- Every record that a command leaves comes from one of these: start-up leaves the records, or none. -/
theorem exec_recordFrom {c : Instr} {s t : State} (h : exec c s = .next t) {u : Tag} {q : Record}
    (hq : t.tag u = .busy q) : s.RecordFrom c u q := by
  by_cases hc : c = .startUpScan ∨ c = .pointerSelection
  · obtain ⟨-, -, -, htt | ⟨n, htt⟩⟩ := exec_startUp_tracker hc h <;> rw [State.tag, htt] at hq
    · exact .kept hq rfl
    · rw [get_replicate] at hq; cases hq
  · exact (exec_trackerMoves hc h).recordFrom hq

/-! ### The statements about records -/

/-- Settles O15: a BUSY tag is on no free list, so the record it has comes from the record it had. -/
theorem capturedFieldsStayAsSet : Obligations.CapturedFieldsStayAsSet := by
  intro c s t g r q hfree h hr hq
  cases exec_recordFrom h hq with
  | kept htag heq =>
    obtain rfl := TagState.busy.inj (hr.symm.trans htag)
    rw [heq]
    exact ⟨rfl, .inl rfl⟩
  | retransmitted hc htag heq =>
    obtain rfl := TagState.busy.inj (hr.symm.trans htag)
    rw [heq]
    exact ⟨rfl, .inr ⟨hc, rfl⟩⟩
  | admitted hlist hkey =>
    have : s.tag g = .free := (hfree.2 g).1 (by rw [hlist]; exact List.mem_cons_self)
    rw [hr] at this; cases this

/-- A record that comes from a record has its upline key. -/
theorem State.RecordFrom.key {s : State} {c : Instr} {g : Tag} {q : Record} (h : s.RecordFrom c g q) :
    (∃ r, s.tag g = .busy r ∧ r.key = q.key)
      ∨ (∃ rest, s.tt.freeList = g :: rest) ∧ ∀ u r, s.tag u = .busy r → r.key ≠ q.key := by
  cases h with
  | kept htag hq => exact .inl ⟨_, htag, by rw [hq]; rfl⟩
  | retransmitted hc htag hq => exact .inl ⟨_, htag, by rw [hq]; rfl⟩
  | admitted hfree hkey => exact .inr ⟨⟨_, hfree⟩, hkey⟩

/-- No two records have one upline key, if each comes from the records before (R51, R75). -/
theorem State.KeyLaw.of_recordFrom {s t : State} {c : Instr} (hs : s.KeyLaw)
    (h : ∀ u q, t.tag u = .busy q → s.RecordFrom c u q) : t.KeyLaw := by
  intro u u' q q' hq hq' hkey
  rcases (h u q hq).key with ⟨r, hr, hrk⟩ | ⟨⟨rest, hfree⟩, hfresh⟩ <;>
    rcases (h u' q' hq').key with ⟨r', hr', hrk'⟩ | ⟨⟨rest', hfree'⟩, hfresh'⟩
  · exact hs u u' r r' hr hr' (hrk.trans (hkey.trans hrk'.symm))
  · exact absurd (hrk.trans hkey) (hfresh' u r hr)
  · exact absurd (hrk'.trans hkey.symm) (hfresh u' r' hr')
  · exact (List.cons.inj (hfree.symm.trans hfree')).1

end Sys2Proof.Machine
end

section
/-! PROOFS. The tracker's lists, tag by tag: a tag stands in the free list, the hold list and the Downline
Transmit Queue, and is DT's, exactly as its own state says. A move changes this of one tag, or of all. -/

namespace Sys2Proof.Machine

/-! ### The laws, tag by tag -/

/-- The lists and DT agree with the state of one tag (R69, R70, R77, R79, R111). -/
structure State.Agrees (s : State) (g : Tag) : Prop where
  free : g ∈ s.tt.freeList ↔ s.tag g = .free
  held : g ∈ s.rt.holdList ↔ (s.tag g).isHeld = true
  waiting : .tracked g ∈ s.tt.dq ↔ (s.tag g).isWaiting = true
  sent : s.sendingTag g = true → (s.tag g).maySend = true
  reported : (s.tag g).awaitsReport = true → s.sendingTag g = true

/-- Each list holds a tag once at most, and the queue at most 16 untracked entries (R70, R77, R111). -/
structure State.Tidy (s : State) : Prop where
  free : s.tt.freeList.Nodup
  hold : s.rt.holdList.Nodup
  down : (s.tt.dq.filter fun x => !x.isUntracked).Nodup
  untracked : s.tt.dq.countP DqEntry.isUntracked ≤ 16

/-- The laws of the tracker but for those of reset and of the upline keys. -/
structure State.Accounted (s : State) : Prop where
  tidy : s.Tidy
  agrees : ∀ g, s.Agrees g
  quiet : s.QuietLaw

theorem State.trackerInv_iff (s : State) : s.TrackerInv ↔ s.ResetLaw ∧ s.Accounted ∧ s.KeyLaw := by
  constructor
  · rintro ⟨hreset, ⟨hfree, hfree'⟩, ⟨hhold, hhold'⟩, ⟨hdown, hdown', huntracked⟩, hsend, hkeys, hquiet⟩
    exact ⟨hreset, ⟨⟨hfree, hhold, hdown, huntracked⟩,
      fun g => ⟨hfree' g, hhold' g, hdown' g, (hsend g).1, (hsend g).2⟩, hquiet⟩, hkeys⟩
  · rintro ⟨hreset, ⟨⟨hfree, hhold, hdown, huntracked⟩, hagrees, hquiet⟩, hkeys⟩
    exact ⟨hreset, ⟨hfree, fun g => (hagrees g).free⟩, ⟨hhold, fun g => (hagrees g).held⟩,
      ⟨hdown, fun g => (hagrees g).waiting, huntracked⟩, fun g => ⟨(hagrees g).sent, (hagrees g).reported⟩,
      hkeys, hquiet⟩

theorem State.Accounted.of_view {s t : State} (h : s.Accounted) (hv : t.trackerView = s.trackerView) :
    t.Accounted := by
  obtain ⟨htt, hhold, -⟩ := State.trackerView_eq.1 hv
  have htag := State.tag_of_view hv
  have hsending := State.sendingTag_of_view hv
  obtain ⟨⟨h1, h2, h3, h4⟩, hagrees, hquiet⟩ := h
  refine ⟨⟨by rwa [htt], by rwa [hhold], by rwa [htt], by rwa [htt]⟩, fun g => ?_, ?_⟩
  · obtain ⟨a1, a2, a3, a4, a5⟩ := hagrees g
    rw [← htag, ← hsending, ← htt, ← hhold] at *
    exact ⟨a1, a2, a3, a4, a5⟩
  · simpa only [State.QuietLaw, htag, htt] using hquiet

theorem State.KeyLaw.of_view {s t : State} (h : s.KeyLaw) (hv : t.trackerView = s.trackerView) : t.KeyLaw := by
  simpa only [State.KeyLaw, State.tag_of_view hv] using h

/-- Where nothing is tracked, every law of the lists is kept (R73, R96). -/
theorem State.Swept.accounted {s : State} (h : s.Swept) : s.Accounted := by
  obtain ⟨htags, hfree, hdq, hhold, hdt⟩ := h
  refine ⟨⟨by simp [hfree], by simp [hhold], by simp [hdq], by simp [hdq]⟩, fun g => ?_,
    fun _ => htags, fun _ => ⟨htags, hfree⟩⟩
  constructor <;> simp [htags, hfree, hdq, hhold, hdt, State.sendingTag, TagState.isHeld, TagState.isWaiting,
    TagState.awaitsReport]

/-! ### A tag on its way from one state to another -/

/-- In `u` every tag but `g` is as in `s`, and `g` is on no list. -/
structure State.Detached (s u : State) (g : Tag) : Prop where
  tidy : u.Tidy
  tag : ∀ x, x ≠ g → u.tag x = s.tag x
  free : ∀ x, x ∈ u.tt.freeList ↔ x ≠ g ∧ x ∈ s.tt.freeList
  held : ∀ x, x ∈ u.rt.holdList ↔ x ≠ g ∧ x ∈ s.rt.holdList
  waiting : ∀ x, .tracked x ∈ u.tt.dq ↔ x ≠ g ∧ .tracked x ∈ s.tt.dq
  sending : ∀ x, x ≠ g → u.sendingTag x = s.sendingTag x
  timer : u.tt.quietTimer = s.tt.quietTimer

section Lists
variable {α : Type} {a x : α} {l : List α}

/-- Membership in a list that does not hold `a`, and in the tail that `a` leaves. -/
theorem mem_iff_ne_and_mem (h : a ∉ l) : x ∈ l ↔ x ≠ a ∧ x ∈ l :=
  (and_iff_right_of_imp fun hx => ne_of_mem_of_not_mem hx h).symm

theorem mem_tail_iff_ne_and_mem (h : a ∉ l) : x ∈ l ↔ x ≠ a ∧ x ∈ a :: l := by
  rw [List.mem_cons]
  exact ⟨fun hx => ⟨ne_of_mem_of_not_mem hx h, .inr hx⟩, fun ⟨hne, hx⟩ => hx.resolve_left hne⟩

end Lists

section Unlisted
variable {s : State} (h : s.Accounted) {g : Tag}
include h

theorem State.Accounted.not_free (hg : s.tag g ≠ .free) : g ∉ s.tt.freeList :=
  fun hm => hg ((h.agrees g).free.1 hm)

theorem State.Accounted.not_held (hg : (s.tag g).isHeld = false) : g ∉ s.rt.holdList := by
  rw [(h.agrees g).held, hg]; nofun

theorem State.Accounted.not_waiting (hg : (s.tag g).isWaiting = false) : .tracked g ∉ s.tt.dq := by
  rw [(h.agrees g).waiting, hg]; nofun

/-- A tag that may not be DT's is not. -/
theorem State.Accounted.not_sending (hg : (s.tag g).maySend = false) : s.sendingTag g = false := by
  rw [← Bool.not_eq_true]
  intro hs
  rw [(h.agrees g).sent hs] at hg; cases hg

end Unlisted

/-- A frame that joins the Upline Transmit Queue touches no tag and no list of tags. -/
theorem State.Detached.enqueueUp {s u : State} {g : Tag} (h : s.Detached u g) (f : Frame) :
    s.Detached (u.enqueueUp f) g := { h with tidy := { h.tidy with } }

section DetachedTag
variable {s u : State} {g : Tag} (h : s.Detached u g)
include h

/-- A detached tag is on no list. -/
theorem State.Detached.not_free : g ∉ u.tt.freeList := fun hg => ((h.free g).1 hg).1 rfl
theorem State.Detached.not_held : g ∉ u.rt.holdList := fun hg => ((h.held g).1 hg).1 rfl
theorem State.Detached.not_waiting : .tracked g ∉ u.tt.dq := fun hg => ((h.waiting g).1 hg).1 rfl

end DetachedTag

/-- The agreement of a tag, said of the state that it has. -/
theorem State.Agrees.of_tag {t : State} {g : Tag} {x : TagState} (h : t.tag g = x)
    (free : g ∈ t.tt.freeList ↔ x = .free) (held : g ∈ t.rt.holdList ↔ x.isHeld = true)
    (waiting : .tracked g ∈ t.tt.dq ↔ x.isWaiting = true) (sent : t.sendingTag g = true → x.maySend = true)
    (reported : x.awaitsReport = true → t.sendingTag g = true) : t.Agrees g := by
  subst h
  exact ⟨free, held, waiting, sent, reported⟩

/-- Outside the quiet period no tag is in it, and its timer does not run (R73). -/
theorem State.QuietLaw.none {s : State} (h : s.QuietLaw) {g : Tag} (hg : s.tag g ≠ .quiet) :
    (∀ x, s.tag x ≠ .quiet) ∧ s.tt.quietTimer = none := by
  refine ⟨fun x hx => hg (h.1 ⟨x, hx⟩ g), ?_⟩
  cases ht : s.tt.quietTimer with
  | none => rfl
  | some n => exact absurd ((h.2 (by rw [ht]; rfl)).1 g) hg

/-- Between `u` and `t` only the state of `g` has changed, and its place in the lists. -/
structure State.OnlyAt (u t : State) (g : Tag) : Prop where
  tag : ∀ x, x ≠ g → t.tag x = u.tag x
  free : ∀ x, x ≠ g → (x ∈ t.tt.freeList ↔ x ∈ u.tt.freeList)
  held : ∀ x, x ≠ g → (x ∈ t.rt.holdList ↔ x ∈ u.rt.holdList)
  waiting : ∀ x, x ≠ g → (.tracked x ∈ t.tt.dq ↔ .tracked x ∈ u.tt.dq)
  dt : t.dt = u.dt
  timer : t.tt.quietTimer = u.tt.quietTimer

/-- Every other tag agrees with the lists as before. -/
theorem State.Agrees.elsewhere {s u t : State} {g x : Tag} (h : s.Agrees x) (hd : s.Detached u g)
    (ho : u.OnlyAt t g) (hx : x ≠ g) : t.Agrees x := by
  have hsending : t.sendingTag x = s.sendingTag x := by
    rw [← hd.sending x hx]; simp only [State.sendingTag, ho.dt]
  obtain ⟨free, held, waiting, sent, reported⟩ := h
  refine .of_tag ((ho.tag x hx).trans (hd.tag x hx)) ?_ ?_ ?_ (hsending ▸ sent) (hsending ▸ reported)
  · exact (ho.free x hx).trans (((hd.free x).trans (and_iff_right hx)).trans free)
  · exact (ho.held x hx).trans (((hd.held x).trans (and_iff_right hx)).trans held)
  · exact (ho.waiting x hx).trans (((hd.waiting x).trans (and_iff_right hx)).trans waiting)

/-- Once the detached tag has its new state, and its place in the lists with it, the laws hold again. -/
theorem State.Accounted.attach {s u t : State} {g : Tag} (hs : s.Accounted) (hd : s.Detached u g)
    (hquiet : s.tag g ≠ .quiet) (ho : u.OnlyAt t g) (hg : t.tag g ≠ .quiet) (htidy : t.Tidy)
    (hagrees : t.Agrees g) : t.Accounted := by
  obtain ⟨hnone, hnotimer⟩ := hs.quiet.none hquiet
  have hnone' : ∀ x, t.tag x ≠ .quiet := by
    intro x
    by_cases hx : x = g
    · exact hx ▸ hg
    · rw [ho.tag x hx, hd.tag x hx]; exact hnone x
  refine ⟨htidy, fun x => ?_, fun ⟨x, hx⟩ => absurd hx (hnone' x), fun ht => ?_⟩
  · by_cases hx : x = g
    · exact hx ▸ hagrees
    · exact (hs.agrees x).elsewhere hd ho hx
  · rw [ho.timer, hd.timer, hnotimer] at ht; cases ht

section Attach
variable {s u : State} {g : Tag}

/-- A detached tag takes a state that is on no list. -/
theorem State.Accounted.attach_setTag (hs : s.Accounted) (hd : s.Detached u g) (hquiet : s.tag g ≠ .quiet)
    {x : TagState} (hq : x ≠ .quiet) (hfree : x ≠ .free) (hheld : x.isHeld = false)
    (hwaiting : x.isWaiting = false) (hsent : u.sendingTag g = true → x.maySend = true)
    (hreported : x.awaitsReport = true → u.sendingTag g = true) : (u.setTag g x).Accounted := by
  have hself : (u.setTag g x).tag g = x := by rw [State.tag_setTag, if_pos rfl]
  have ho : u.OnlyAt (u.setTag g x) g := ⟨fun y hy => by rw [State.tag_setTag, if_neg hy.symm],
    fun _ _ => .rfl, fun _ _ => .rfl, fun _ _ => .rfl, rfl, rfl⟩
  refine hs.attach hd hquiet ho (by rwa [hself]) { hd.tidy with } (.of_tag hself ?_ ?_ ?_ ?_ ?_)
  · exact iff_of_false hd.not_free hfree
  · exact iff_of_false hd.not_held (by rw [hheld]; nofun)
  · exact iff_of_false hd.not_waiting (by rw [hwaiting]; nofun)
  · exact hsent
  · exact hreported

/-- A detached tag that DT does not send becomes FREE (R70). -/
theorem State.Accounted.attach_freeTag (hs : s.Accounted) (hd : s.Detached u g) (hquiet : s.tag g ≠ .quiet)
    (hsent : u.sendingTag g = false) : (u.freeTag g).Accounted := by
  have hself : (u.freeTag g).tag g = .free := by rw [State.tag_freeTag, if_pos rfl]
  have hnodup : (u.tt.freeList ++ [g]).Nodup := List.concat_eq_append ▸ hd.tidy.free.concat hd.not_free
  have ho : u.OnlyAt (u.freeTag g) g := ⟨fun y hy => by rw [State.tag_freeTag, if_neg hy.symm],
    fun y hy => by simp [hy], fun _ _ => .rfl, fun _ _ => .rfl, rfl, rfl⟩
  refine hs.attach hd hquiet ho (by rw [hself]; nofun) { hd.tidy with free := hnodup }
    (.of_tag hself ?_ ?_ ?_ ?_ ?_)
  · exact iff_of_true (by simp) rfl
  · exact iff_of_false hd.not_held nofun
  · exact iff_of_false hd.not_waiting nofun
  · exact fun h => absurd (hsent.symm.trans h) nofun
  · exact nofun

/-- A detached tag gets a record in HELD, at the tail of the hold list (R90). -/
theorem State.Accounted.attach_held (hs : s.Accounted) (hd : s.Detached u g) (hquiet : s.tag g ≠ .quiet)
    {r : Record} {reply : Frame} {o : Origin} (hsent : u.sendingTag g = true → o = .stationInSending) :
    State.Accounted { u with
      tt := { u.tt with tags := setAt u.tt.tags g (.busy { r with state := .held reply o }) }
      rt := { u.rt with holdList := u.rt.holdList ++ [g] } } := by
  have hnodup : (u.rt.holdList ++ [g]).Nodup := List.concat_eq_append ▸ hd.tidy.hold.concat hd.not_held
  have hself : (setAt u.tt.tags g (.busy { r with state := .held reply o })).get g
      = .busy { r with state := .held reply o } := get_setAt_self _ _ _
  refine hs.attach hd hquiet ⟨fun y hy => get_setAt_ne _ _ hy.symm, fun _ _ => .rfl, fun y hy => by simp [hy],
    fun _ _ => .rfl, rfl, rfl⟩ (hself.trans_ne nofun) { hd.tidy with hold := hnodup }
    (.of_tag hself ?_ ?_ ?_ ?_ ?_)
  · exact iff_of_false hd.not_free nofun
  · exact iff_of_true (by simp) rfl
  · exact iff_of_false hd.not_waiting (by simp [TagState.isWaiting])
  · exact fun h => decide_eq_true (hsent h)
  · simp [TagState.awaitsReport]

/-- A detached tag that DT does not send gets a record in WAIT_LINE, its entry at the queue's tail (R77). -/
theorem State.Accounted.attach_queued (hs : s.Accounted) (hd : s.Detached u g) (hquiet : s.tag g ≠ .quiet)
    {r : Record} (hstate : r.state = .waitLine) (hsent : u.sendingTag g = false) :
    ((u.setTag g (.busy r)).enqueueDown (.tracked g)).Accounted := by
  have hself : (setAt u.tt.tags g (.busy r)).get g = .busy r := get_setAt_self _ _ _
  have hdown : ((u.tt.dq ++ [DqEntry.tracked g]).filter fun x => !x.isUntracked).Nodup := by
    rw [List.filter_append]
    exact List.concat_eq_append ▸ hd.tidy.down.concat fun h => hd.not_waiting (List.mem_of_mem_filter h)
  have huntracked : (u.tt.dq ++ [DqEntry.tracked g]).countP DqEntry.isUntracked ≤ 16 := by
    simpa [DqEntry.isUntracked] using hd.tidy.untracked
  refine hs.attach hd hquiet ⟨fun y hy => get_setAt_ne _ _ hy.symm, fun _ _ => .rfl, fun _ _ => .rfl,
    fun y hy => by simp [hy], rfl, rfl⟩ (hself.trans_ne nofun)
    { hd.tidy with down := hdown, untracked := huntracked } (.of_tag hself ?_ ?_ ?_ ?_ ?_)
  · exact iff_of_false hd.not_free nofun
  · exact iff_of_false hd.not_held (by simp [TagState.isHeld, hstate])
  · exact iff_of_true (by simp) (decide_eq_true hstate)
  · exact fun h => absurd (hsent.symm.trans h) nofun
  · simp [TagState.awaitsReport, hstate]

/-- A record ends, its tag detached (R92). -/
theorem State.Accounted.attach_endRecord (hs : s.Accounted) (hd : s.Detached u g) (hquiet : s.tag g ≠ .quiet)
    (r : Record) (o : Origin) : (u.endRecord g r o).Accounted := by
  rcases u.endRecord_cases g r o with ⟨hsent, h⟩ | ⟨hsent, -, -, h⟩ | ⟨hsent, -, h⟩ <;> rw [h]
  · exact hs.attach_setTag hd hquiet nofun nofun rfl rfl (fun _ => rfl) (fun _ => hsent)
  · exact hs.attach_freeTag hd hquiet hsent
  · exact hs.attach_setTag hd hquiet nofun nofun rfl rfl (fun h => by rw [hsent] at h; cases h) nofun

/-- A reply is delivered for a record, its tag detached (R90). -/
theorem State.Accounted.attach_deliver (hs : s.Accounted) (hd : s.Detached u g) (hquiet : s.tag g ≠ .quiet)
    (r : Record) (reply : Frame) {o : Origin} (hsent : u.sendingTag g = true → o = .stationInSending) :
    (u.deliver g r reply o).Accounted := by
  rcases u.deliver_cases g r reply o with ⟨-, h⟩ | ⟨-, h⟩ <;> rw [h]
  · exact hs.attach_endRecord (hd.enqueueUp reply) hquiet r o
  · exact hs.attach_held hd hquiet hsent

end Attach

end Sys2Proof.Machine
end

section
/-! PROOFS. Every move of the tracker keeps its lists in agreement with the tags (R69 to R79, R111). -/

namespace Sys2Proof.Machine

/-! ### Taking a tag off its list -/

section Detach
variable {s : State} (h : s.Accounted) {g : Tag} {r : Record}
include h

/-- A tag whose state is on no list. -/
theorem State.Accounted.detached (hfree : s.tag g ≠ .free) (hheld : (s.tag g).isHeld = false)
    (hwaiting : (s.tag g).isWaiting = false) : s.Detached s g where
  tidy := h.tidy
  tag _ _ := rfl
  free _ := mem_iff_ne_and_mem (h.not_free hfree)
  held _ := mem_iff_ne_and_mem (h.not_held hheld)
  waiting x := by simpa using mem_iff_ne_and_mem (x := .tracked x) (h.not_waiting hwaiting)
  sending _ _ := rfl
  timer := rfl

/-- A record in WAIT_LINE, its entry withdrawn from the queue (R88). -/
theorem State.Accounted.detached_withdraw (htag : s.tag g = .busy r) (hstate : r.state = .waitLine) :
    s.Detached (s.withdraw g) g where
  tidy := { h.tidy with
    down := h.tidy.down.sublist (List.filter_sublist.filter _)
    untracked := (List.filter_sublist.countP_le).trans h.tidy.untracked }
  tag _ _ := rfl
  free _ := mem_iff_ne_and_mem (h.not_free (by rw [htag]; nofun))
  held _ := mem_iff_ne_and_mem (h.not_held (by simp [htag, TagState.isHeld, hstate]))
  waiting x := by simp [and_comm]
  sending _ _ := rfl
  timer := rfl

/-- A record in HELD, its reply taken from the head of the hold list (R110). -/
theorem State.Accounted.detached_moved {rest : List Tag} (hhold : s.rt.holdList = g :: rest)
    (htag : s.tag g = .busy r) {reply : Frame} {o : Origin} (hstate : r.state = .held reply o) :
    s.Detached { s with rt := { s.rt with holdList := rest } } g := by
  obtain ⟨hnot, hnodup⟩ := List.nodup_cons.1 (hhold ▸ h.tidy.hold)
  exact {
    tidy := { h.tidy with hold := hnodup }
    tag := fun _ _ => rfl
    free := fun _ => mem_iff_ne_and_mem (h.not_free (by rw [htag]; nofun))
    held := fun _ => by rw [hhold]; exact mem_tail_iff_ne_and_mem hnot
    waiting := fun x => by
      simpa using mem_iff_ne_and_mem (x := .tracked x)
        (h.not_waiting (g := g) (by simp [htag, TagState.isWaiting, hstate]))
    sending := fun _ _ => rfl
    timer := rfl }

/-- The tag at the head of the free list (R59). -/
theorem State.Accounted.detached_admitted {rest : List Tag} (hfree : s.tt.freeList = g :: rest) :
    s.Detached { s with tt := { s.tt with freeList := rest } } g := by
  obtain ⟨hnot, hnodup⟩ := List.nodup_cons.1 (hfree ▸ h.tidy.free)
  have htag : s.tag g = .free := (h.agrees g).free.1 (by rw [hfree]; exact List.mem_cons_self)
  exact {
    tidy := { h.tidy with free := hnodup }
    tag := fun _ _ => rfl
    free := fun _ => by rw [hfree]; exact mem_tail_iff_ne_and_mem hnot
    held := fun _ => mem_iff_ne_and_mem (h.not_held (by rw [htag]; rfl))
    waiting := fun x => by
      simpa using mem_iff_ne_and_mem (x := .tracked x) (h.not_waiting (g := g) (by rw [htag]; rfl))
    sending := fun _ _ => rfl
    timer := rfl }

/-- The tracked entry at the head of the queue, taken by a DT that was IDLE (R78). -/
theorem State.Accounted.detached_taken {rest : List DqEntry} (hidle : s.dt = none)
    (hqueue : s.tt.dq = .tracked g :: rest) (htag : s.tag g = .busy r) (f : Frame) :
    s.Detached { s with tt := { s.tt with dq := rest }, dt := some (DownFlight.start f (.tracked g)) } g := by
  have hwaits : (s.tag g).isWaiting = true := (h.agrees g).waiting.1 (by rw [hqueue]; exact List.mem_cons_self)
  have hstate : r.state = .waitLine := by simpa [htag, TagState.isWaiting] using hwaits
  obtain ⟨hnot, hnodup⟩ : .tracked g ∉ rest ∧ (rest.filter fun x => !x.isUntracked).Nodup := by
    simpa [hqueue, DqEntry.isUntracked] using h.tidy.down
  exact {
    tidy := { h.tidy with
      down := hnodup
      untracked := by simpa [hqueue, DqEntry.isUntracked] using h.tidy.untracked }
    tag := fun _ _ => rfl
    free := fun _ => mem_iff_ne_and_mem (h.not_free (by rw [htag]; nofun))
    held := fun _ => mem_iff_ne_and_mem (h.not_held (by simp [htag, TagState.isHeld, hstate]))
    waiting := fun x => by rw [hqueue]; simpa using mem_tail_iff_ne_and_mem (x := .tracked x) hnot
    sending := fun x hx => by simp [State.sendingTag, hidle, DownFlight.start, hx.symm]
    timer := rfl }

/-- The tag whose frame DT reports sent, in a state that is on no list (R79). -/
theorem State.Accounted.detached_reported {d : DownFlight} (hdt : s.dt = some d)
    (hcurrent : d.current = .tracked g) (hfree : s.tag g ≠ .free) (hheld : (s.tag g).isHeld = false)
    (hwaiting : (s.tag g).isWaiting = false) :
    s.Detached { s with dt := none } g :=
  { h.detached hfree hheld hwaiting with
    tidy := { h.tidy with }
    sending := fun x hx => by simp [State.sendingTag, hdt, hcurrent, hx.symm] }

end Detach

/-! ### Moves of one tag -/

section OneTag
variable {s : State} (h : s.Accounted) {g : Tag} {r : Record}
include h

theorem State.Accounted.answered (htag : s.tag g = .busy r) (reply : Frame) {o : Origin}
    (hstate : r.state = .awaitReply ∨ r.state = .sending ∧ o = .stationInSending) :
    (s.deliver g r reply o).Accounted := by
  have hd : s.Detached s g := by
    refine h.detached (by rw [htag]; nofun) ?_ ?_ <;> rw [htag] <;>
      rcases hstate with hstate | ⟨hstate, -⟩ <;> simp [TagState.isHeld, TagState.isWaiting, hstate]
  refine h.attach_deliver hd (by rw [htag]; nofun) r reply fun hs => ?_
  rcases hstate with hstate | ⟨-, ho⟩
  · rw [h.not_sending (by simp [htag, TagState.maySend, hstate])] at hs; cases hs
  · exact ho

theorem State.Accounted.withdrawn (htag : s.tag g = .busy r) (reply : Frame) (hstate : r.state = .waitLine) :
    ((s.withdraw g).deliver g r reply .station).Accounted := by
  refine h.attach_deliver (h.detached_withdraw htag hstate) (by rw [htag]; nofun) r reply fun hs => ?_
  have hs : s.sendingTag g = true := hs
  rw [h.not_sending (by simp [htag, TagState.maySend, hstate])] at hs; cases hs

theorem State.Accounted.retransmitted (htag : s.tag g = .busy r) (hstate : r.state = .awaitReply) :
    (s.retransmit g r).Accounted := by
  have hd : s.Detached s g := h.detached (by rw [htag]; nofun) (by simp [htag, TagState.isHeld, hstate])
    (by simp [htag, TagState.isWaiting, hstate])
  exact (h.attach_queued hd (by rw [htag]; nofun) rfl
    (h.not_sending (by simp [htag, TagState.maySend, hstate]))).of_view rfl

theorem State.Accounted.admitted {rest : List Tag} (hfree : s.tt.freeList = g :: rest)
    (hstate : r.state = .waitLine) : (s.admitRecord g rest r).Accounted := by
  have htag : s.tag g = .free := (h.agrees g).free.1 (by rw [hfree]; exact List.mem_cons_self)
  exact h.attach_queued (h.detached_admitted hfree) (by rw [htag]; nofun) hstate
    (h.not_sending (by rw [htag]; rfl))

theorem State.Accounted.taken {rest : List DqEntry} (hidle : s.dt = none)
    (hqueue : s.tt.dq = .tracked g :: rest) (htag : s.tag g = .busy r) (f : Frame) :
    State.Accounted { State.setTag { s with tt := { s.tt with dq := rest } } g
      (.busy { r with state := .sending }) with dt := some (DownFlight.start f (.tracked g)) } :=
  h.attach_setTag (h.detached_taken hidle hqueue htag f) (by rw [htag]; nofun)
    (x := .busy { r with state := .sending }) nofun nofun rfl rfl (fun _ => rfl) fun _ => decide_eq_true rfl

/-- DT becomes IDLE, and no tag waits for its report. -/
theorem State.Accounted.dtIdle (hnone : ∀ x, (s.tag x).awaitsReport = false) :
    State.Accounted { s with dt := none } := by
  refine ⟨{ h.tidy with }, fun x => ?_, h.quiet⟩
  exact { h.agrees x with sent := nofun, reported := fun hr => absurd ((hnone x).symm.trans hr) nofun }

theorem State.Accounted.reported {d : DownFlight} (hdt : s.dt = some d) :
    (State.reportSent { s with dt := none } d.current).Accounted := by
  have unsent : ∀ x, d.current ≠ .tracked x → (s.tag x).awaitsReport = false := by
    intro x hx
    rw [← Bool.not_eq_true]
    intro hr
    have hs := (h.agrees x).reported hr
    simp only [State.sendingTag, hdt, decide_eq_true_eq] at hs
    exact hx hs
  cases hcurrent : d.current with
  | untracked => exact h.dtIdle fun x => unsent x (by rw [hcurrent]; nofun)
  | tracked g =>
    change (State.setTag { s with dt := none } g (s.tag g).reportedSent).Accounted
    rcases (s.tag g).reportedSent_cases with
      ⟨r, htag, hstate, hsent⟩ | ⟨captured, htag, hsent⟩ | ⟨hnr, hns, hsent⟩ <;> rw [hsent]
    · exact h.attach_setTag (h.detached_reported hdt hcurrent (by rw [htag]; nofun)
        (by simp [htag, TagState.isHeld, hstate]) (by simp [htag, TagState.isWaiting, hstate]))
        (by rw [htag]; nofun) nofun nofun rfl rfl nofun nofun
    · exact h.attach_setTag (h.detached_reported hdt hcurrent (by rw [htag]; nofun) (by rw [htag]; rfl)
        (by rw [htag]; rfl)) (by rw [htag]; nofun) nofun nofun rfl rfl nofun nofun
    · rw [State.setTag_self (s := { s with dt := none }) (x := s.tag g) rfl]
      refine h.dtIdle fun x => ?_
      by_cases hx : x = g
      · subst hx
        cases htag : s.tag x with
        | busy r => exact decide_eq_false (hns r htag)
        | releasing captured => exact absurd htag (hnr captured)
        | _ => rfl
      · exact unsent x (by rw [hcurrent]; exact fun e => hx (Current.tracked.inj e).symm)

end OneTag

/-! ### Moves of no tag, and of all -/

/-- A flush leaves no tracked entry, and the free list as it was (R94). -/
theorem State.flush_lists (s : State) :
    s.flush.tt.freeList = s.tt.freeList ∧ s.flush.tt.dq = s.tt.dq.filter DqEntry.isUntracked
      ∧ s.flush.tt.quietTimer = s.tt.quietTimer := by
  unfold State.flush
  exact ⟨rfl, rfl, rfl⟩

theorem TagState.flushed_eq_quiet {x : TagState} {sending : Bool} :
    x.flushed sending = .quiet ↔ x = .quiet := by
  cases x <;> cases sending <;> simp [TagState.flushed]

section AllTags
variable {s : State} (h : s.Accounted)
include h

theorem State.Accounted.broadcast (hroom : s.tt.dq.countP DqEntry.isUntracked < 16) (f : Frame) :
    (s.enqueueDown (.untracked f)).Accounted := by
  refine ⟨{ h.tidy with down := ?_, untracked := ?_ }, fun x => { h.agrees x with waiting := ?_ }, h.quiet⟩
  · simpa [DqEntry.isUntracked] using h.tidy.down
  · simp only [State.enqueueDown_tt, List.countP_append]
    exact hroom
  · change _ ∈ s.tt.dq ++ [_] ↔ (s.tag x).isWaiting = true
    simpa using (h.agrees x).waiting

theorem State.Accounted.takenUntracked {f : Frame} {rest : List DqEntry} (hidle : s.dt = none)
    (hqueue : s.tt.dq = .untracked f :: rest) :
    State.Accounted { s with tt := { s.tt with dq := rest }, dt := some (DownFlight.start f .untracked) } := by
  have hsending : ∀ x, s.sendingTag x = false := fun x => by simp [State.sendingTag, hidle]
  refine ⟨{ h.tidy with down := ?_, untracked := ?_ },
    fun x => { h.agrees x with waiting := ?_, sent := ?_, reported := ?_ }, h.quiet⟩
  · simpa [hqueue, DqEntry.isUntracked] using h.tidy.down
  · have huntracked := h.tidy.untracked
    rw [hqueue, List.countP_cons] at huntracked
    exact (Nat.le_add_right _ _).trans huntracked
  · change _ ↔ (s.tag x).isWaiting = true
    simpa [hqueue] using (h.agrees x).waiting
  · simp [State.sendingTag, DownFlight.start]
  · intro hr
    have hs := (h.agrees x).reported hr
    rw [hsending x] at hs; cases hs

/-- What a flush makes of a tag: one that was BUSY is on no list now, and any other is as it was (R94). -/
theorem State.Accounted.flushed_agrees (g : Tag) : s.flush.Agrees g := by
  obtain ⟨free, held, waiting, sent, reported⟩ := h.agrees g
  obtain ⟨hfree, hdq, -⟩ := s.flush_lists
  have hsending : s.flush.sendingTag g = s.sendingTag g := by simp only [State.sendingTag, State.flush_dt]
  have hnotheld : g ∉ s.flush.rt.holdList := by simp
  have hnotwaiting : .tracked g ∉ s.flush.tt.dq := by simp [hdq, DqEntry.isUntracked]
  have htag := s.tag_flush g
  rw [← hfree] at free
  rw [← hsending] at sent reported htag
  cases hx : s.tag g with
  | busy r =>
    rw [hx] at htag free
    have hnotfree : g ∉ s.flush.tt.freeList := fun hg => nomatch free.1 hg
    cases hs : s.flush.sendingTag g with
    | true =>
      rw [hs] at htag
      exact .of_tag htag (iff_of_false hnotfree nofun) (iff_of_false hnotheld nofun)
        (iff_of_false hnotwaiting nofun) (fun _ => rfl) (fun _ => hs)
    | false =>
      rw [hs] at htag
      exact .of_tag htag (iff_of_false hnotfree nofun) (iff_of_false hnotheld nofun)
        (iff_of_false hnotwaiting nofun) (fun ht => absurd (hs.symm.trans ht) nofun) nofun
  | _ =>
    rw [hx] at htag free sent reported
    exact .of_tag htag free (iff_of_false hnotheld nofun) (iff_of_false hnotwaiting nofun) sent reported

theorem State.Accounted.flushed : s.flush.Accounted := by
  obtain ⟨hfree, hdq, htimer⟩ := s.flush_lists
  have hquiet : ∀ x, s.flush.tag x = .quiet ↔ s.tag x = .quiet := fun x => by
    rw [s.tag_flush, TagState.flushed_eq_quiet]
  refine ⟨⟨?_, by simp, ?_, ?_⟩, h.flushed_agrees, ?_⟩
  · rw [hfree]; exact h.tidy.free
  · rw [hdq, List.filter_filter]
    simp
  · rw [hdq]; exact List.filter_sublist.countP_le.trans h.tidy.untracked
  · simpa only [State.QuietLaw, hquiet, hfree, htimer] using h.quiet

theorem State.Accounted.quietEnded (htimer : s.tt.quietTimer.isSome = true) :
    State.Accounted { s with tt := { s.tt with
      tags := Vector.replicate 32 .free, freeList := List.finRange 32, quietTimer := none } } := by
  obtain ⟨hquiet, -⟩ := h.quiet.2 htimer
  refine ⟨{ h.tidy with free := List.nodup_finRange 32 }, fun x => ?_, fun ⟨x, hx⟩ => ?_, nofun⟩
  · have hself : (Vector.replicate 32 TagState.free).get x = .free := get_replicate _ x
    refine .of_tag hself ?_ ?_ ?_ ?_ nofun
    · exact iff_of_true (List.mem_finRange x) rfl
    · exact iff_of_false (h.not_held (by rw [hquiet]; rfl)) nofun
    · exact iff_of_false (h.not_waiting (by rw [hquiet]; rfl)) nofun
    · exact fun hs => absurd ((h.not_sending (by rw [hquiet]; rfl)).symm.trans hs) nofun
  · have : TagState.free = .quiet := (get_replicate _ x).symm.trans hx
    cases this

end AllTags

/-- Every move of the tracker keeps its lists in agreement with the tags. -/
theorem State.TrackerMove.accounted {s t : State} {c : Instr} (h : s.TrackerMove c t) (hs : s.Accounted) :
    t.Accounted := by
  cases h with
  | unchanged => exact hs
  | admitted hfree hstate hkey => exact hs.admitted hfree hstate
  | broadcast hroom => exact hs.broadcast hroom _
  | answered htag hstate => exact hs.answered htag _ hstate
  | withdrawn htag hstate => exact hs.withdrawn htag _ hstate
  | @moved g rest r reply o hhold htag hstate =>
    exact hs.attach_endRecord ((hs.detached_moved hhold htag hstate).enqueueUp reply) (by rw [htag]; nofun) r o
  | retransmitted hc htag hstate => exact hs.retransmitted htag hstate
  | @expired g captured htag =>
    exact hs.attach_freeTag (hs.detached (by rw [htag]; nofun) (by rw [htag]; rfl) (by rw [htag]; rfl))
      (by rw [htag]; nofun) (hs.not_sending (by rw [htag]; rfl))
  | quietEnded htimer => exact hs.quietEnded htimer
  | taken hidle hqueue htag => exact hs.taken hidle hqueue htag _
  | takenUntracked hidle hqueue => exact hs.takenUntracked hidle hqueue
  | reported hdt => exact hs.reported hdt
  | flushed => exact hs.flushed
  | swept ht => exact ht.accounted

end Sys2Proof.Machine
end

section
/-! PROOFS. The law of reset is kept by every command, and with it the laws of the Transaction Tracker by every
step. -/

namespace Sys2Proof.Machine

/-! ### The law of reset -/

/-- A management command is run by a live part, and leaves it live. -/
theorem State.RunsCommand.live {s t : State} (h : s.RunsCommand t) (hs : s.Live) : t.Live := by
  obtain ⟨u, f, cmd, hu, ht⟩ := h
  have hul := (State.sameStage_of_view hu).live hs
  refine (State.sameStage_of_view ht).live ?_
  rcases Command.run_storeWork f u cmd with h | h
  · exact h.live hul
  · rw [h]; exact (State.sameStage_of_view u.flush_storeView).live hul

/-- Pointer selection goes on in STARTING, or ends it (R163, R164). -/
theorem State.InStarting.select_resetLaw {s : State} (hs : s.InStarting) (cells : List CellId) :
    (s.select cells).ResetLaw := by
  obtain ⟨hq, hout, hmode, hop, hstaging, hcheck⟩ := hs
  rcases s.select_cases cells with ⟨x, -, -, -, -, hx⟩
    | ⟨x, c, rest, r, y, xop, xmode, xstaging, xcheck, xstage, -, -, hx⟩ <;> rw [hx]
  · exact State.Live.resetLaw ⟨hout, nofun, rfl⟩
  · exact State.resetLaw_starting { hq with } (xmode.trans hmode) (xstage.trans_ne nofun) (xop.trans hop)
      (xstaging.trans hstaging) (xcheck.trans hcheck) hout

theorem exec_startUp_resetLaw {c : Instr} {s t : State} (hc : c = .startUpScan ∨ c = .pointerSelection)
    (hs : s.InStarting) (h : exec c s = .next t) : t.ResetLaw := by
  rcases hc with rfl | rfl
  · change execStartUpScan s = _ at h
    unfold execStartUpScan at h
    split at h
    · obtain rfl := Host.Outcome.next.inj h
      exact hs.scan.select_resetLaw _
    · cases h
  · change execPointerSelection s = _ at h
    unfold execPointerSelection at h
    split at h
    · split at h
      · obtain rfl := Host.Outcome.next.inj h
        exact State.Live.resetLaw ⟨hs.outOfReset, nofun, rfl⟩
      · obtain rfl := Host.Outcome.next.inj h
        obtain ⟨hq, hout, hmode, hop, hstaging, hcheck⟩ := hs
        exact State.InStarting.select_resetLaw (s := s.startUpFault .activeCheckFail)
          ⟨{ hq with }, hout, hmode, hop, hstaging, hcheck⟩ _
    · cases h

/-- A part with a store operation in flight is live (R120, R161). -/
theorem State.ResetLaw.live_of_op {s : State} (h : s.ResetLaw) (hop : s.ts.op ≠ none) : s.Live := by
  rcases h.live_or_quiescent with hl | ⟨-, -, hm⟩
  · exact hl
  · exact absurd (h.2.1 hm).2.1 hop

/-- Every command keeps the law of reset: power and RESET_N establish it, start-up ends in it, the store and
the Engine work in a live part alone, and what else happens on the lines leaves a quiescent part so. -/
theorem exec_resetLaw {c : Instr} {s t : State} (hs : s.ResetLaw) (h : exec c s = .next t) : t.ResetLaw := by
  cases hp : isPowerEvent c with
  | true => exact ((exec_powerEvent hp h).2 hs).reset
  | false =>
    cases hc : isStageEvent c with
    | true =>
      by_cases hstart : c = .startUpScan ∨ c = .pointerSelection
      · exact exec_startUp_resetLaw hstart (hs.inStarting (exec_startUp_tracker hstart h).1) h
      · have hl := hs.live_of_op (exec_stageEvent_op hc hstart h)
        exact ((exec_storeStage_work hc hstart h).live hl).resetLaw
    | false =>
      rcases exec_lineEvent hp hc h with hview | ⟨hlisten, hrun⟩
      · exact hs.of_view hview fun hq hl => exec_of_quiescent hq hl hp hc h
      · exact (hrun.live (hs.live_of_listening hlisten)).resetLaw

theorem State.ResetLaw.withPending {s : State} (h : s.ResetLaw) (rest : List Instr) :
    State.ResetLaw { s with pending := rest } := by
  obtain ⟨hreset, hstarting, hstage⟩ := h
  refine ⟨fun ho => ?_, fun hm => ?_, hstage⟩
  · obtain ⟨hq, hts⟩ := hreset ho
    exact ⟨{ hq with }, hts⟩
  · obtain ⟨hq, hts⟩ := hstarting hm
    exact ⟨{ hq with }, hts⟩

/-! ### The laws of the tracker -/

/-- The moves of the tracker keep its laws, the law of reset apart. -/
theorem State.TrackerMoves.trackerInv {s t : State} {c : Instr} (h : s.TrackerMoves c t) (hs : s.TrackerInv)
    (hr : t.ResetLaw) : t.TrackerInv := by
  obtain ⟨-, haccounted, hkeys⟩ := s.trackerInv_iff.1 hs
  refine t.trackerInv_iff.2 ⟨hr, ?_, hkeys.of_recordFrom fun _ _ => h.recordFrom⟩
  obtain ⟨u, v, hu, hv, hm⟩ := h
  exact (hm.accounted (haccounted.of_view hu)).of_view hv

/-- Start-up finds nothing tracked, and leaves nothing tracked (R96, R164). -/
theorem exec_startUp_swept {c : Instr} {s t : State} (hc : c = .startUpScan ∨ c = .pointerSelection)
    (hs : s.ResetLaw) (h : exec c s = .next t) : t.Swept := by
  obtain ⟨hstage, hrt, hdt, htt⟩ := exec_startUp_tracker hc h
  obtain ⟨htags, hfree, hdq, hhold, hidle⟩ := (hs.inStarting hstage).quiescent.swept
  have hhold' := (congrArg ReturnPath.holdList hrt).trans hhold
  rcases htt with htt | ⟨n, htt⟩
  · exact ⟨fun g => by rw [State.tag, htt]; exact htags g, by rw [htt]; exact hfree, by rw [htt]; exact hdq,
      hhold', hdt.trans hidle⟩
  · exact ⟨fun g => by rw [State.tag, htt]; exact get_replicate _ g, by rw [htt], by rw [htt]; exact hdq,
      hhold', hdt.trans hidle⟩

theorem exec_trackerInv {c : Instr} {s t : State} (hs : s.TrackerInv) (h : exec c s = .next t) :
    t.TrackerInv := by
  refine State.TrackerMoves.trackerInv (c := c) ?_ hs (exec_resetLaw hs.reset h)
  by_cases hc : c = .startUpScan ∨ c = .pointerSelection
  · exact .of_swept (exec_startUp_swept hc hs.reset h)
  · exact exec_trackerMoves hc h

/-- A character time with no command waiting moves nothing in the tracker, or is the restart (R23). -/
theorem State.tick_moves (s : State) (c : Instr) : s.TrackerMoves c s.tick := by
  rcases s.tick_cases with ⟨-, h⟩ | ⟨-, h⟩ <;> rw [h]
  · exact .of_swept s.restart_swept
  · exact .of_view s.sendCharacters_trackerView

/-- Settles O11: a command makes one of the moves of the tracker, and so does a character time. -/
theorem everyStepKeepsTheTrackerLaws : Obligations.EveryStepKeepsTheTrackerLaws := by
  intro s t hs h
  unfold step at h
  split at h
  · obtain rfl := Host.Outcome.next.inj h
    exact (s.tick_moves .utTake).trackerInv hs
      (hs.reset.of_view s.tick_storeView fun hq _ => ⟨hq.tick.1, fun _ => hq.tick.2⟩)
  · rename_i c rest _
    have hmoves : s.TrackerMoves c { s with pending := rest } := .of_view rfl
    exact exec_trackerInv (hmoves.trackerInv hs (hs.reset.withPending rest)) h

end Sys2Proof.Machine
end

section
/-! PROOFS. Replies at the tracker, and its timers: a downline frame that names a tag meets that tag's state,
and a reply that its record accepts is delivered or held (R71, R74, R80 to R90, R92, R100 to R103). -/

namespace Sys2Proof.Machine

/-! ### A good downline frame reaches the tracker -/

theorem State.takeReply_foreign (s : State) {f : Frame} (h : f.dir = false ∨ 32 ≤ f.seq.toNat) :
    s.takeReply f = s.count .foreign := by
  have hnot : ¬ (f.dir = true ∧ f.seq.toNat < 32) := by
    rintro ⟨hdir, hseq⟩
    rcases h with h | h
    · rw [hdir] at h; cases h
    · exact absurd hseq (Nat.not_lt.2 h)
  exact dif_neg hnot

/-- The Sequence of a reply is the number of the tag it names (R84). -/
theorem State.takeReply_reply (s : State) {f : Frame} {t : Tag} (hdir : f.dir = true)
    (hseq : f.seq = BitVec.ofNat 8 t.val) : s.takeReply f = s.matchReply t f := by
  have hval : f.seq.toNat = t.val := by rw [hseq, BitVec.toNat_ofNat]; omega
  have htag : ∀ h : f.seq.toNat < 32, (⟨f.seq.toNat, h⟩ : Tag) = t := fun _ => Fin.ext hval
  rw [State.takeReply, dif_pos ⟨hdir, hval ▸ t.isLt⟩, htag]

/-- The last character of a reply has the tag it names met in the state it is in (R85, R86). -/
theorem State.TakesReply.exec_eq {s : State} {t : Tag} {f : Frame} (h : s.TakesReply t f)
    (keysw rested : Bool) :
    exec (f.lastCharacter .downline keysw rested) s
      = .next ((s.afterFrame .downline keysw).matchReply t f) := by
  rw [h.completes.exec_lastCharacter]
  exact congrArg _ (State.takeReply_reply _ h.reply h.tag)

/-! ### Replies without a record to answer -/

section MatchReply
variable {s : State} {t : Tag} {f : Frame}

theorem State.matchReply_free (h : s.tag t = .free) : s.matchReply t f = s.count .strayReplies := by
  simp only [State.matchReply, h]

theorem State.matchReply_late
    (h : (∃ x, s.tag t = .releasing x) ∨ (∃ x, s.tag t = .quarantine x) ∨ s.tag t = .quiet) :
    s.matchReply t f = s.count .lateReplies := by
  rcases h with ⟨x, h⟩ | ⟨x, h⟩ | h <;> simp only [State.matchReply, h]

theorem State.matchReply_other {r : Record} (h : s.tag t = .busy r)
    (hother : f.addr ≠ r.downAddr ∨ f.fn ≠ r.downFn) : s.matchReply t f = s.count .strayReplies := by
  have hrejected : ¬ r.accepts f = true := by
    rw [r.accepts_iff, not_and_or]
    exact hother
  simp only [State.matchReply, h, if_neg hrejected]

theorem State.matchReply_busy {r : Record} (h : s.tag t = .busy r) (ha : f.addr = r.downAddr)
    (hf : f.fn = r.downFn) : s.matchReply t f = s.acceptReply t r f := by
  simp only [State.matchReply, h, if_pos ((r.accepts_iff f).2 ⟨ha, hf⟩)]

end MatchReply

/-- Settles O36: by the direction bit and the Sequence, then by the state of the tag that is named. -/
theorem unplacedReplyIsCounted : Obligations.UnplacedReplyIsCounted := by
  refine ⟨fun s f keysw rested hc h => ?_, fun s f keysw rested t h => ?_⟩
  · rw [hc.exec_lastCharacter]
    exact congrArg _ (State.takeReply_foreign _ h)
  · simp only [h.exec_eq, ← s.afterFrame_tag .downline keysw t]
    refine ⟨fun hfree => ?_, fun hlate => ?_, fun r hbusy => ⟨fun hother => ?_, fun ha hf hheld => ?_⟩⟩
    · rw [State.matchReply_free hfree]
    · rw [State.matchReply_late hlate]
    · rw [State.matchReply_other hbusy hother]
    · obtain ⟨reply, origin, hheld⟩ := hheld
      rw [State.matchReply_busy hbusy ha hf]
      simp only [State.acceptReply, hheld]

/-! ### Replies that a record accepts -/

/-- What is noted of a reply accepted in a record state (R90). -/
def RecordState.origin (x : RecordState) : Origin := if x = .sending then .stationInSending else .station

theorem RecordState.origin_eq_station_iff (x : RecordState) : x.origin = .station ↔ x ≠ .sending := by
  unfold RecordState.origin
  split <;> simp_all

/-- Outside HELD a matching reply is shaped and delivered, a waiting retransmission withdrawn (R87 to R89). -/
theorem State.acceptReply_deliver (s : State) (t : Tag) {r : Record} (f : Frame)
    (h : ∀ reply origin, r.state ≠ .held reply origin) :
    s.acceptReply t r f
      = (if r.state = .waitLine then s.withdraw t else s).deliver t r (r.upReply f) r.state.origin := by
  unfold State.acceptReply
  cases hs : r.state with
  | waitLine => rfl
  | sending => rfl
  | awaitReply => rfl
  | held reply origin => exact absurd hs (h reply origin)

theorem State.deliver_of_room {s : State} (h : s.rt.uq.length < 16) (t : Tag) (r : Record) (reply : Frame)
    (o : Origin) :
    s.deliver t r reply o
      = (s.enqueueUp reply).release t r.quarantine (decide (r.retransmissions = 0 ∧ o = .station)) := by
  rcases s.deliver_cases t r reply o with ⟨-, hd⟩ | ⟨hfull, -⟩
  · rw [hd, State.endRecord_eq_release]
  · exact absurd h (Nat.not_lt.2 hfull)

theorem State.deliver_of_full {s : State} (h : 16 ≤ s.rt.uq.length) (t : Tag) (r : Record) (reply : Frame)
    (o : Origin) :
    s.deliver t r reply o = { s with
      tt := { s.tt with tags := setAt s.tt.tags t (.busy { r with state := .held reply o }) }
      rt := { s.rt with holdList := s.rt.holdList ++ [t] } } := by
  rcases s.deliver_cases t r reply o with ⟨hroom, -⟩ | ⟨-, hd⟩
  · exact absurd hroom (Nat.not_lt.2 h)
  · exact hd

/-- A matching reply to a record that has none yet is delivered (R87 to R90). -/
theorem State.TakesReply.exec_deliver {s : State} {t : Tag} {f : Frame} {r : Record} (h : s.TakesReply t f)
    (hbusy : s.tag t = .busy r) (ha : f.addr = r.downAddr) (hf : f.fn = r.downFn)
    (hopen : ∀ reply origin, r.state ≠ .held reply origin) (keysw rested : Bool) :
    let u := s.afterFrame .downline keysw
    exec (f.lastCharacter .downline keysw rested) s
      = .next ((if r.state = .waitLine then u.withdraw t else u).deliver t r (r.upReply f) r.state.origin) := by
  rw [← s.afterFrame_tag .downline keysw t] at hbusy
  rw [h.exec_eq, State.matchReply_busy hbusy ha hf, State.acceptReply_deliver _ _ _ hopen]

/-- Settles O37: the reply is delivered into the room that the withdrawal leaves as it was. -/
theorem replyIsDelivered : Obligations.ReplyIsDelivered := by
  intro s f keysw rested t r h hbusy ha hf hopen hroom u w
  have hroom' : w.rt.uq.length < 16 := by
    have hrt : w.rt = s.rt := by
      simp only [w, u]
      split <;> exact s.afterFrame_rt _ _
    rwa [hrt]
  rw [h.exec_deliver hbusy ha hf hopen]
  refine congrArg _ ((State.deliver_of_room hroom' t r _ _).trans ?_)
  simp only [RecordState.origin_eq_station_iff]
  rfl

/-- Settles O38: the reply is held, by whether its record waits for the line. -/
theorem replyIsHeld : Obligations.ReplyIsHeld := by
  intro s f keysw rested t r h hbusy ha hf hopen hfull u origin
  have hfull' : 16 ≤ u.rt.uq.length := by rwa [s.afterFrame_rt]
  rw [h.exec_deliver hbusy ha hf hopen]
  by_cases hwait : r.state = .waitLine
  · rw [if_pos hwait, if_pos hwait, State.deliver_of_full (s := u.withdraw t) hfull']
    rfl
  · rw [if_neg hwait, if_neg hwait, State.deliver_of_full hfull']
    rfl

/-! ### The timers -/

/-- The reply timer of an open request expires (R81, R82). -/
theorem exec_replyTimerExpiry_awaiting {s : State} {t : Tag} {r : Record} (h : s.tag t = .busy r)
    (hr : r.state = .awaitReply) :
    exec (.replyTimerExpiry t) s
      = .next (if r.retransmissions < r.retryLimit then s.retransmit t r else s.exhaust t r) := by
  simp only [exec, execReplyTimerExpiry, h, hr, if_true]

/-- Outside AWAIT_REPLY no reply timer runs (R80). -/
theorem exec_replyTimerExpiry_stopped {s : State} {t : Tag}
    (h : ∀ r, s.tag t = .busy r → r.state ≠ .awaitReply) :
    exec (.replyTimerExpiry t) s = .fault .timerNotRunning := by
  simp only [exec, execReplyTimerExpiry]
  split
  · rename_i r hr
    exact if_neg (h r hr)
  · rfl

/-- Settles O39: a retry is left, or no timer runs. -/
theorem silenceIsRetransmitted : Obligations.SilenceIsRetransmitted := by
  intro s t
  refine ⟨fun r h hr hleft => ?_, exec_replyTimerExpiry_stopped⟩
  rw [exec_replyTimerExpiry_awaiting h hr, if_pos hleft]
  rfl

/-- Settles O40: no retry is left, and the NO_REPLY exception is delivered or held. -/
theorem exhaustedRecordIsAnswered : Obligations.ExhaustedRecordIsAnswered := by
  intro s t r h hr hspent u reply
  have hexhaust : exec (.replyTimerExpiry t) s = .next (u.deliver t r reply .exhausted) := by
    rw [exec_replyTimerExpiry_awaiting h hr, if_neg (Nat.not_lt.2 hspent)]
    rfl
  rw [hexhaust]
  refine ⟨fun hroom => congrArg _ ?_, fun hfull => congrArg _ (State.deliver_of_full (s := u) hfull t r _ _)⟩
  rw [State.deliver_of_room (s := u) hroom]
  simp only [reduceCtorEq, and_false, decide_false]
  rfl

/-- Settles O41: by the state of the tag. -/
theorem quarantineExpiryFreesTheTag : Obligations.QuarantineExpiryFreesTheTag := by
  intro s t
  simp only [exec, execQuarantineExpiry]
  refine ⟨fun captured h => ?_, fun h => ?_⟩
  · rw [h]
    rfl
  · split
    · exact absurd ‹_› (h _)
    · rfl

/-- Settles O42: by whether the quiet-period timer runs. -/
theorem quietPeriodExpiryFreesAllTags : Obligations.QuietPeriodExpiryFreesAllTags := by
  intro s
  simp only [exec, execQuietPeriodExpiry]
  exact ⟨fun length h => by rw [h], fun h => by rw [h]⟩

end Sys2Proof.Machine
end

section
/-! PROOFS. The laws of the part right after reset: nothing is tracked, queued or in flight, and nothing was
ever written (R69, R70, R73, R96, R105, R111, R119, R161, R165). -/

namespace Sys2Proof.Machine

theorem State.reset_quiescent : State.reset.Quiescent := ⟨⟨rfl, rfl⟩, ⟨rfl, rfl, rfl⟩, rfl, rfl, rfl⟩

theorem State.reset_resetLaw : State.reset.ResetLaw :=
  ⟨nofun, fun _ => ⟨State.reset_quiescent, rfl, rfl, rfl⟩, fun _ => ⟨nofun, fun _ => rfl⟩⟩

/-- After reset every tag is in QUARANTINE with no timer of its own (R96). -/
theorem State.reset_tag (t : Tag) : State.reset.tag t = .quiet := get_replicate _ t

theorem State.reset_not_busy (t : Tag) (r : Record) : State.reset.tag t ≠ .busy r := by
  rw [State.reset_tag]
  nofun

theorem State.reset_trackerInv : State.reset.TrackerInv :=
  (State.trackerInv_iff _).2 ⟨State.reset_resetLaw, State.reset_quiescent.swept.accounted,
    fun t _ r _ h => absurd h (State.reset_not_busy t r)⟩

theorem Bank.blank_sound : Bank.blank.Sound where
  canonical := SlotMap.wf_nil
  entries := nofun
  header := nofun

/-- Both banks of a new part are BLANK (R25, assumption 4). -/
theorem State.reset_bank (b : BankId) : State.reset.nv.bank b = .blank := by cases b <;> rfl

theorem State.reset_lockLaw : State.reset.LockLaw := by
  refine ⟨nofun, fun b k _ => ?_⟩
  rw [State.reset_bank]
  nofun

theorem State.reset_storeInv : State.reset.StoreInv where
  reset := State.reset_resetLaw
  banks b := by rw [State.reset_bank]; exact Bank.blank_sound
  staging := trivial
  service := nofun
  operation := nofun
  commit := nofun
  marks _ hstarted := absurd rfl hstarted
  locks := State.reset_lockLaw
  blankAhead := nofun

/-- Settles O9: nothing is tracked or in flight, and every element is BLANK. -/
theorem lawsHoldAfterReset : Obligations.LawsHoldAfterReset where
  tracker := State.reset_trackerInv
  store := State.reset_storeInv
  upQueue := ⟨Nat.zero_le _, fun _ => ⟨rfl, rfl⟩⟩
  upReplies := ⟨nofun, nofun, nofun, nofun, fun t r _ _ h => absurd h (State.reset_not_busy t r)⟩
  records t r h := absurd h (State.reset_not_busy t r)
  captured t := by rw [State.reset_tag]; exact ⟨nofun, nofun⟩
  receivers := ⟨⟨trivial, trivial⟩, fun line _ => by cases line <;> exact .inl rfl⟩
  alert := rfl

end Sys2Proof.Machine
end

section
/-! PROOFS. The Management Engine executes a request: the command its characters spell is run, and the answer is
recorded and offered (R168 to R172). FLUSH TRACKER, and what each of the reads reports (R94, R112, R173 to
R177, R182). -/

namespace Sys2Proof.Machine

/-! ### A request is executed -/

theorem Frame.whole_frame (f : Frame) : f.whole.frame = f := rfl
theorem Frame.whole_check (f : Frame) : f.whole.check = f.check := by rw [Frame.whole]

theorem Frame.managementReply_normal (f : Frame) (payload : List Byte) :
    f.managementReply (.normal payload) = f.ownReply false payload := rfl

theorem State.replayOrExecute_execute {s : State} {q : Received}
    (h : ∀ r, s.me.replay = some r → ¬ (r.tag = q.frame.seq ∧ r.fn = q.frame.fn ∧ r.check = q.check)) :
    s.replayOrExecute q = s.execute q := by
  unfold State.replayOrExecute
  split
  · rename_i r hr
    have hother : ¬ r.isFor q = true := by simpa [Replay.isFor, and_assoc] using h r hr
    rw [if_neg hother]
  · rfl

/-- The Engine, READY with its holder empty, executes a request that is no replay (R168 to R170). -/
theorem State.takeManagement_execute {s : State} {q : Received} (hready : s.me.state = .ready)
    (hholder : s.me.holder = none)
    (hreplay : ∀ r, s.me.replay = some r → ¬ (r.tag = q.frame.seq ∧ r.fn = q.frame.fn ∧ r.check = q.check)) :
    s.takeManagement q = s.execute q := by
  rw [State.takeManagement, hready]
  simp only [hholder, Option.isSome_none, Bool.false_eq_true, if_false, State.replayOrExecute_execute hreplay]

/-- A request addressed to the Engine goes to it (R13). -/
theorem State.handOnUpline_management {s : State} {q : Received} (hdir : q.frame.dir = false)
    (hexc : q.frame.exc = false) (haddr : q.frame.addr = s.mgmtAddr) :
    s.handOnUpline q = s.takeManagement q :=
  if_pos ⟨hdir, hexc, haddr⟩

/-- A management request that is no replay is executed in the event of its last character (R13, R170). -/
theorem State.Executes.exec_eq {s : State} {f : Frame} (h : s.Executes f) (keysw rested : Bool) :
    exec (f.lastCharacter .upline keysw rested) s = .next ((s.afterFrame .upline keysw).execute f.whole) := by
  obtain ⟨hc, ⟨hdir, hexc⟩, haddr, hready, hholder, hreplay⟩ := h
  rw [← s.afterFrame_mgmtAddr .upline keysw] at haddr
  rw [← s.afterFrame_engineState .upline keysw] at hready
  rw [← s.afterFrame_holder .upline keysw] at hholder
  rw [← s.afterFrame_replay .upline keysw] at hreplay
  rw [hc.exec_lastCharacter, State.handOn, State.handOnUpline_management,
    State.takeManagement_execute hready hholder]
  · simpa only [Frame.whole_frame, Frame.whole_check] using hreplay
  · rwa [Frame.whole_frame]
  · rwa [Frame.whole_frame]
  · rwa [Frame.whole_frame]

theorem State.offerManagement_eq (s : State) (f : Frame) :
    s.offerManagement f =
      if s.rt.uq.length < 16 then s.enqueueUp f else { s with me := { s.me with holder := some f } } := by
  rcases s.offerManagement_cases f with ⟨hroom, h⟩ | ⟨hfull, h⟩
  · rw [h, if_pos hroom]
  · rw [h, if_neg (Nat.not_lt.2 hfull)]

/-- A normal answer is recorded for replay and offered to the Return Path (R106, R170). -/
theorem State.conclude_normal (s : State) (f : Frame) (payload : List Byte) :
    s.conclude f.whole (.normal payload) = s.answered f false payload := by
  simp only [State.conclude, State.answered, State.offerManagement_eq, State.enqueueUp, Frame.whole_frame,
    Frame.whole_check, Frame.managementReply_normal]

/-- A command that is answered normally leaves its state with that answer (R170 to R172). -/
theorem State.Executes.exec_normal {s t : State} {f : Frame} {c : Command} {payload : List Byte}
    (h : s.Executes f) {keysw : Bool} (rested : Bool) (hparse : Command.parse f.fn f.payload = .ok c)
    (hrun : c.run f (s.afterFrame .upline keysw) = (.normal payload, t)) :
    exec (f.lastCharacter .upline keysw rested) s = .next (t.answered f false payload) := by
  simp only [h.exec_eq, State.execute, Frame.whole_frame, hparse, hrun, State.conclude_normal]

/-! ### Arguments -/

theorem bankArg_bankCode (b : BankId) : bankArg (bankCode b) = some b := by cases b <;> rfl

theorem wordOf_toNat (hi lo : Byte) : (wordOf hi lo).toNat = 256 * hi.toNat + lo.toNat := by
  rw [wordOf, BitVec.toNat_append, ← Nat.shiftLeft_add_eq_or_of_lt lo.isLt, Nat.shiftLeft_eq]
  omega

theorem slotArg_twoCharacters (n : SlotNo) :
    slotArg (BitVec.ofNat 8 (n.val / 256)) (BitVec.ofNat 8 (n.val % 256)) = some n := by
  have hval : (wordOf (BitVec.ofNat 8 (n.val / 256)) (BitVec.ofNat 8 (n.val % 256))).toNat = n.val := by
    rw [wordOf_toNat, BitVec.toNat_ofNat, BitVec.toNat_ofNat]
    omega
  rw [slotArg, dif_pos (hval.trans_lt n.isLt)]
  exact congrArg some (Fin.ext hval)

theorem tagArg_ofNat (t : Tag) : tagArg (BitVec.ofNat 8 t.val) = some t := by
  have hval : (BitVec.ofNat 8 t.val).toNat = t.val := by rw [BitVec.toNat_ofNat]; omega
  rw [tagArg, dif_pos (hval.trans_lt t.isLt)]
  exact congrArg some (Fin.ext hval)

theorem Command.parse_readEntry (b : BankId) (n : SlotNo) :
    Command.parse 0x04#6 [bankCode b, BitVec.ofNat 8 (n.val / 256), BitVec.ofNat 8 (n.val % 256)]
      = .ok (.readEntry b n) := by
  change (match bankArg (bankCode b) with
    | some bank => inRange (slotArg _ _) (.readEntry bank)
    | none => .error .badArgument) = _
  rw [bankArg_bankCode, slotArg_twoCharacters]
  rfl

theorem Command.parse_readHeader (b : BankId) : Command.parse 0x05#6 [bankCode b] = .ok (.readHeader b) := by
  change inRange (bankArg (bankCode b)) .readHeader = _
  rw [bankArg_bankCode]
  rfl

theorem Command.parse_readTracker (t : Tag) :
    Command.parse 0x06#6 [BitVec.ofNat 8 t.val] = .ok (.readTracker t) := by
  change inRange (tagArg (BitVec.ofNat 8 t.val)) .readTracker = _
  rw [tagArg_ofNat]
  rfl

theorem Command.parse_readSegments (b : BankId) :
    Command.parse 0x07#6 [bankCode b] = .ok (.readSegments b) := by
  change inRange (bankArg (bankCode b)) .readSegments = _
  rw [bankArg_bankCode]
  rfl

/-! ### FLUSH TRACKER -/

@[simp] theorem State.afterFrame_sendingTag (s : State) (line : Line) (keysw : Bool) (t : Tag) :
    (s.afterFrame line keysw).sendingTag t = s.sendingTag t := by
  simp only [State.sendingTag, State.afterFrame_dt]

/-- Settles O45: the flush ends each tag's record by whether DT sends it. -/
theorem flushAbandonsEveryRecord : Obligations.FlushAbandonsEveryRecord := by
  intro s f keysw rested h hfn hp u busy
  have hbusy : busy = TagState.isBusy := by
    funext x
    cases x <;> rfl
  rw [h.exec_normal rested (c := .flushTracker) (by rw [hfn, hp]; rfl) rfl, hbusy]
  refine congrArg (fun tags => Host.Outcome.next (State.answered { u with
    tt := { u.tt with tags := tags, dq := u.tt.dq.filter DqEntry.isUntracked }
    rt := { u.rt with holdList := [] } } f false [countByte u.openRecords]))
    (congrArg Vector.ofFn (funext fun t => ?_))
  rw [s.afterFrame_tag, s.afterFrame_sendingTag]
  cases s.tag t <;> rfl

end Sys2Proof.Machine
end

section
/-! PROOFS. What each of the reads reports (R98, R115, R119, R126, R151, R173 to R177, R187): the records that the
replies carry, field by field, and that a read changes nothing but what a running erase has come to. -/

namespace Sys2Proof.Machine

/-! ### Two characters for each item of a list -/

section Pairs
variable {α β : Type} (f g : α → β)

theorem length_flatMap_pair (l : List α) : (l.flatMap fun x => [f x, g x]).length = 2 * l.length := by
  simp [List.length_flatMap, Nat.mul_comm]

theorem getElem?_flatMap_pair {l : List α} {i : Nat} {x : α} (h : l[i]? = some x) :
    (l.flatMap fun x => [f x, g x])[2 * i]? = some (f x)
      ∧ (l.flatMap fun x => [f x, g x])[2 * i + 1]? = some (g x) := by
  induction l generalizing i with
  | nil => cases h
  | cons y l ih =>
    cases i with
    | zero =>
      obtain rfl := Option.some.inj h
      exact ⟨rfl, rfl⟩
    | succ i => exact ih h

end Pairs

theorem toList_four {α : Type} (v : Vector α 4) : v.toList = [v.get 0, v.get 1, v.get 2, v.get 3] := by
  obtain ⟨⟨l⟩, hl⟩ := v
  match l, hl with
  | [_, _, _, _], _ => rfl

/-! ### The status record (R173) -/

/-- Positions 0 to 8 of the status record: the mode and what follows from it. -/
def Mode.report (m : Mode) (mgmtAddr : Byte) : List Byte :=
  [m.code, (m.active.map bankCode).getD 0xFF] ++ twoBytes m.generation ++ [mgmtAddr] ++ m.label

/-- Positions 14 to 16 of the status record: the last check, where there is one. -/
def checkReport (check : Option Word) : List Byte := flagCode check.isSome :: twoBytes (check.getD 0)

/-- The status record in its parts. -/
theorem State.statusRecord_eq (s : State) :
    s.statusRecord = s.ts.mode.report s.mgmtAddr
      ++ [storeStateCode s.ts.op]
      ++ [s.ts.opNumber, s.ts.lastOp.code, s.ts.lastResult.code, flagCode s.ts.faultLatch]
      ++ checkReport s.ts.lastCheck
      ++ [s.ts.staging.pageCode, countByte s.ts.staging.count]
      ++ [flagCode s.pins.keysw]
      ++ [s.tagCount 0x00, s.tagCount 0x01, s.tagCount 0x02, s.tagCount 0x03]
      ++ [countByte (s.tt.dq.countP fun x => !x.isUntracked), countByte (s.tt.dq.countP DqEntry.isUntracked),
        countByte s.rt.uq.length, countByte s.rt.holdList.length]
      ++ [0x00, bankCode s.standby] := by
  simp only [State.statusRecord, Mode.report, checkReport, List.append_assoc, List.cons_append, List.nil_append]

theorem Mode.report_length (m : Mode) (mgmtAddr : Byte) : (m.report mgmtAddr).length = 9 := by
  cases m <;> simp [Mode.report, twoBytes, Mode.label]

theorem Mode.report_starting (mgmtAddr : Byte) :
    Mode.starting.report mgmtAddr = [0x00, 0xFF, 0x00, 0x00, mgmtAddr, 0x00, 0x00, 0x00, 0x00] := rfl

theorem Mode.report_unconfigured (b : BankId) (mgmtAddr : Byte) :
    (Mode.unconfigured b).report mgmtAddr = [0x02, 0xFF, 0x00, 0x00, mgmtAddr, 0x00, 0x00, 0x00, 0x00] := by
  simp only [Mode.report, Mode.generation]
  rfl

theorem bankCode_eq (b : BankId) : bankCode b = if b = .bankA then 0x00 else 0x01 := by cases b <;> rfl

theorem Mode.report_running (v : Service) (mgmtAddr : Byte) :
    (Mode.running v).report mgmtAddr =
      [0x01, if v.active = .bankA then 0x00 else 0x01, highHalf v.generation, lowHalf v.generation, mgmtAddr,
        v.header.label.get 0, v.header.label.get 1, v.header.label.get 2, v.header.label.get 3] := by
  rw [← bankCode_eq, Mode.report, Mode.label, toList_four]
  rfl

theorem checkReport_length (check : Option Word) : (checkReport check).length = 3 := rfl

theorem State.statusRecord_length (s : State) : s.statusRecord.length = 30 := by
  simp [s.statusRecord_eq, Mode.report_length, checkReport_length]

/-- A count of the items that pass a test, as one character, by another form of the test. -/
theorem countByte_congr {α : Type} {l : List α} {p q : α → Bool} (h : ∀ x, p x = q x) :
    countByte (l.countP p) = BitVec.ofNat 8 (l.countP q) :=
  congrArg (fun p => countByte (l.countP p)) (funext h)

theorem append_congr {α : Type} {a b c d : List α} (h : a = b) (h' : c = d) : a ++ c = b ++ d := h ▸ h' ▸ rfl

/-! ### Counters and segments (R174, R176) -/

theorem State.counterPayload_length (s : State) : s.counterPayload.length = 32 :=
  (length_flatMap_pair highHalf lowHalf s.me.counters.toList).trans (by simp)

/-- A counter stands at the place of its number, high half first. -/
theorem State.counterPayload_get (s : State) (c : Counter) :
    s.counterPayload[2 * c.number.val]? = some (highHalf (s.counter c))
      ∧ s.counterPayload[2 * c.number.val + 1]? = some (lowHalf (s.counter c)) := by
  have hget : s.me.counters.toList[c.number.val]? = some (s.counter c) := by
    simp [State.counter, Vector.get_eq_getElem]
  exact getElem?_flatMap_pair highHalf lowHalf hget

theorem Bank.segmentsPayload_length (k : Bank) : k.segmentsPayload.length = 16 :=
  (length_flatMap_pair (fun g => (k.segments.get g).code) (fun g => flagCode (k.locks.get g))
    (List.finRange 8)).trans (by simp)

/-- A segment's condition and its lock stand at the place of its number. -/
theorem Bank.segmentsPayload_get (k : Bank) (g : SegmentNo) :
    k.segmentsPayload[2 * g.val]? = some (k.segments.get g).code
      ∧ k.segmentsPayload[2 * g.val + 1]? = some (flagCode (k.locks.get g)) := by
  have hget : (List.finRange 8)[g.val]? = some g := by simp
  exact getElem?_flatMap_pair (fun g => (k.segments.get g).code) (fun g => flagCode (k.locks.get g)) hget

/-! ### The statement -/

/-- Settles O59: each read's request spells its command, whose report is read off part by part; and a read
during an erase observes what the erase has come to. -/
theorem readsAreReported : Obligations.ReadsAreReported := by
  refine ⟨?reads, ?status, ⟨rfl, rfl⟩, ?counters, ?bank, ?tag, ?erase⟩
  case reads =>
    intro s f keysw rested h u answers bank
    have answer : ∀ c p t, Command.parse f.fn f.payload = .ok c → c.run f u = (.normal p, t) → answers p t :=
      fun _ _ _ hparse hrun => h.exec_normal rested hparse hrun
    have hbank : bank = bankCode := by
      funext b
      cases b <;> rfl
    simp only [hbank]
    refine ⟨fun hf hp => ?_, fun hf hp => ?_, fun hf hp => ?_, fun b n hf hp => ?_, fun b hf hp => ?_,
      fun t hf hp => ?_, fun b hf hp => ?_⟩
    · exact answer .readStatus _ _ (by rw [hf, hp]; rfl) rfl
    · exact answer .readCounters _ _ (by rw [hf, hp]; rfl) rfl
    · exact answer .readAndClearCounters _ _ (by rw [hf, hp]; rfl) rfl
    · exact answer (.readEntry b n) _ _ (by rw [hf, hp, Command.parse_readEntry]) rfl
    · exact answer (.readHeader b) _ _ (by rw [hf, hp, Command.parse_readHeader]) rfl
    · exact answer (.readTracker t) _ _ (by rw [hf, hp, Command.parse_readTracker]) rfl
    · exact answer (.readSegments b) _ _ (by rw [hf, hp, Command.parse_readSegments]) rfl
  case status =>
    intro s tags entries flag
    refine ⟨s.statusRecord_eq.trans ?_, s.statusRecord_length⟩
    refine append_congr (append_congr (append_congr (append_congr (append_congr (append_congr (append_congr
      (append_congr ?mode ?op) rfl) ?check) ?staging) rfl) ?tags) ?queues) ?standby
    case mode =>
      cases s.ts.mode with
      | starting => exact Mode.report_starting _
      | running v => exact Mode.report_running v _
      | unconfigured b => exact Mode.report_unconfigured b _
    case op =>
      cases s.ts.op with
      | none => rfl
      | some op => cases op <;> rfl
    case check => cases s.ts.lastCheck <;> rfl
    case staging => cases s.ts.staging <;> rfl
    case tags =>
      refine congrArg₂ List.cons (countByte_congr fun x => ?_) (congrArg₂ List.cons (countByte_congr fun x => ?_)
        (congrArg₂ List.cons (countByte_congr fun x => ?_) (congrArg₂ List.cons (countByte_congr fun x => ?_) rfl)))
      all_goals cases x <;> rfl
    case queues =>
      refine congrArg₂ List.cons (countByte_congr fun x => ?_) (congrArg₂ List.cons (countByte_congr fun x => ?_) rfl)
      all_goals cases x <;> rfl
    case standby => exact congrArg (fun x => [0x00, x]) (bankCode_eq _)
  case counters => exact fun s c => ⟨s.counterPayload_length, s.counterPayload_get c⟩
  case bank =>
    intro k condition lock
    have hcondition : ∀ g, (k.segments.get g).code = condition g := by
      intro g
      simp only [condition]
      cases k.segments.get g <;> rfl
    refine ⟨fun n => ?_, ?_, k.segmentsPayload_length, fun g => ?_⟩
    · simp only [Bank.entryPayload, hcondition]
      cases k.slot n <;> rfl
    · simp only [Bank.headerPayload]
      cases k.header <;> rfl
    · rw [← hcondition]
      exact k.segmentsPayload_get g
  case tag =>
    intro x
    cases x with
    | free => rfl
    | releasing captured => rfl
    | quarantine captured => rfl
    | quiet => rfl
    | busy r =>
      refine congrArg (fun x => 0x01 :: x :: _) ?_
      cases r.state <;> rfl
  case erase =>
    intro s t
    obtain ⟨hframe, h0, h1⟩ := s.eraseProgress_frame
    refine ⟨State.eraseProgress_idle, hframe, h0, h1, fun b => ?_⟩
    have hdrawn := s.eraseProgress_drawn b
    exact ⟨hdrawn.segments, hdrawn.locks, hdrawn.header, hdrawn.slots⟩

end Sys2Proof.Machine
end

section
/-! PROOFS. What the work of the Table Store leaves as it was, field by field: a stage that ends and a management
command of the store touch the pins, the memory, the store status and the count of free values, and nothing
else. -/

namespace Sys2Proof.Machine

/-- Between the two states nothing has changed but the pins, the memory, the store status and the count of free
values drawn. Of the updates of those fields it holds by `rfl`. -/
def State.StoreFrame (s t : State) : Prop :=
  t = { s with pins := t.pins, nv := t.nv, ts := t.ts, draws := t.draws }

theorem State.StoreFrame.after {s u t : State} (h' : u.StoreFrame t) (h : s.StoreFrame u) : s.StoreFrame t := by
  unfold State.StoreFrame at h h'
  rw [h', h]
  rfl

/-! ### The stages -/

section Stages
variable (s : State)

theorem State.storeFrame_eraseProgress : s.StoreFrame s.eraseProgress := by
  rw [s.eraseProgress_frame.1]
  rfl

theorem State.storeFrame_programNext (b : BankId) (next : Option (SlotNo × Entry)) :
    s.StoreFrame (s.programNext b next) := by
  rcases s.programNext_cases b next with ⟨n, e, -, h⟩ | ⟨-, h⟩ <;> rw [h] <;> rfl

theorem State.storeFrame_copyNext (b : BankId) (g : SegmentNo) (next : Option (SlotNo × Entry)) :
    s.StoreFrame (s.copyNext b g next) := by
  rcases s.copyNext_cases b g next with ⟨n, e, -, h⟩ | ⟨-, h⟩ <;> rw [h] <;> rfl

theorem State.storeFrame_eraseNext (b : BankId) (override : Bool) (from' : Nat) :
    s.StoreFrame (s.eraseNext b override from') := by
  rcases s.eraseNext_cases b override from' with ⟨m, -, h⟩ | h <;> rw [h] <;> rfl

end Stages

/-- The end of a stage of an operation is the store's work alone (R125 to R158). -/
theorem exec_storeStage_frame {c : Instr} {s t : State} (hc : isStageEvent c = true)
    (hstart : ¬ (c = .startUpScan ∨ c = .pointerSelection)) (h : exec c s = .next t) : s.StoreFrame t := by
  cases c with
  | elementWriteEnd image =>
    change execElementWriteEnd image s = _ at h
    unfold execElementWriteEnd at h
    split at h
    · obtain rfl := Host.Outcome.next.inj h
      split
      · exact (State.storeFrame_programNext _ _ _).after rfl
      · rfl
    · obtain rfl := Host.Outcome.next.inj h
      split <;> rfl
    · obtain rfl := Host.Outcome.next.inj h
      split
      · exact (State.storeFrame_copyNext _ _ _ _).after rfl
      · rfl
    · cases h
  | segmentEraseEnd =>
    change execSegmentEraseEnd s = _ at h
    unfold execSegmentEraseEnd at h
    split at h
    · obtain rfl := Host.Outcome.next.inj h
      rfl
    · obtain rfl := Host.Outcome.next.inj h
      exact (State.storeFrame_eraseNext _ _ _ _).after rfl
    · cases h
  | headerEraseEnd =>
    change execHeaderEraseEnd s = _ at h
    unfold execHeaderEraseEnd at h
    split at h
    · obtain rfl := Host.Outcome.next.inj h
      exact (State.storeFrame_eraseNext _ _ _ _).after rfl
    · cases h
  | lockWriteEnd =>
    change execLockWriteEnd s = _ at h
    unfold execLockWriteEnd at h
    split at h
    · obtain rfl := Host.Outcome.next.inj h
      rfl
    · cases h
  | checkBankComplete =>
    change execCheckBankComplete s = _ at h
    unfold execCheckBankComplete at h
    split at h
    · obtain rfl := Host.Outcome.next.inj h
      rfl
    · cases h
  | commitCheckStageEnd =>
    change execCommitCheckStageEnd s = _ at h
    unfold execCommitCheckStageEnd at h
    split at h
    · obtain rfl := Host.Outcome.next.inj h
      split <;> rfl
    · cases h
  | pointerWriteStart =>
    change execPointerWriteStart s = _ at h
    unfold execPointerWriteStart at h
    split at h
    · obtain rfl := Host.Outcome.next.inj h
      rfl
    · cases h
  | pointerVerify q =>
    change execPointerVerify q s = _ at h
    unfold execPointerVerify at h
    split at h
    · split at h
      · split at h
        · obtain rfl := Host.Outcome.next.inj h
          rfl
        · cases h
      · obtain rfl := Host.Outcome.next.inj h
        rfl
    · cases h
  | startUpScan | pointerSelection => simp at hstart
  | _ => cases hc

/-! ### Start-up -/

/-- Start-up works in the store, and takes every tag into the quiet period as STARTING ends (R162 to R164). -/
theorem State.select_frame (s : State) (cells : List CellId) :
    { s with tt := (s.select cells).tt }.StoreFrame (s.select cells) := by
  rcases s.select_cases cells with ⟨u, -, -, -, -, h⟩ | ⟨u, _, _, _, _, -, -, -, -, -, -, -, h⟩ <;> rw [h] <;> rfl

theorem exec_startUp_frame {c : Instr} {s t : State} (hc : c = .startUpScan ∨ c = .pointerSelection)
    (h : exec c s = .next t) : { s with tt := t.tt }.StoreFrame t := by
  rcases hc with rfl | rfl
  · change execStartUpScan s = _ at h
    unfold execStartUpScan at h
    split at h
    · obtain rfl := Host.Outcome.next.inj h
      refine (s.scan.select_frame _).after ?_
      rw [s.scan_eq]
      rfl
    · cases h
  · change execPointerSelection s = _ at h
    unfold execPointerSelection at h
    split at h
    · split at h
      · obtain rfl := Host.Outcome.next.inj h
        rfl
      · obtain rfl := Host.Outcome.next.inj h
        exact ((s.startUpFault .activeCheckFail).select_frame _).after rfl
    · cases h

/-! ### The management commands -/

/-- What a management command does outside the store: nothing, the counters cleared, the tracker flushed, or the
Engine left waiting for its RESTART reply (R173 to R183). -/
theorem Command.run_frame (f : Frame) (s : State) (c : Command) :
    s.StoreFrame (c.run f s).2 ∨ (c.run f s).2 = s.clearCounters ∨ (c.run f s).2 = s.flush
      ∨ ∃ reply, (c.run f s).2 = { s with me := { s.me with state := .restartPending reply } } := by
  have reply : ∀ {payload : State → List Byte} {x : Except Declined State},
      (∀ t, x = .ok t → s.StoreFrame t) → s.StoreFrame (s.storeReply payload x).2 := by
    intro payload x hx
    rcases s.storeReply_cases payload x with ⟨t, ht, h⟩ | ⟨d, -, h⟩ <;> rw [h]
    · exact hx t ht
    · rfl
  cases c with
  | readStatus | readCounters | readTracker | readSegments => exact .inl rfl
  | readAndClearCounters => exact .inr (.inl rfl)
  | readEntry | readHeader => exact .inl s.storeFrame_eraseProgress
  | flushTracker => exact .inr (.inr (.inl rfl))
  | restart =>
    simp only [Command.run, State.requestRestart]
    split
    · exact .inl rfl
    · exact .inr (.inr (.inr ⟨_, rfl⟩))
  | stageEntry n image =>
    refine .inl (reply fun t ht => ?_)
    obtain ⟨e, b, -, -, -, rfl⟩ := State.stageEntry_ok ht
    rfl
  | discardStage =>
    refine .inl (reply fun t ht => ?_)
    obtain ⟨-, rfl⟩ := State.discardStage_ok ht
    rfl
  | clearFault =>
    refine .inl (reply fun t ht => ?_)
    obtain ⟨-, rfl⟩ := State.clearFault_ok ht
    rfl
  | programStage =>
    refine .inl (reply fun t ht => ?_)
    obtain ⟨p, entries, -, -, -, -, ⟨-, rfl⟩ | ⟨-, rfl⟩⟩ := State.programStage_ok ht
    · exact (State.storeFrame_programNext _ _ _).after rfl
    · rfl
  | programHeader image =>
    refine .inl (reply fun t ht => ?_)
    obtain ⟨x, -, -, -, ⟨-, rfl⟩ | ⟨-, rfl⟩⟩ := State.programHeader_ok ht <;> rfl
  | eraseSegment n flag =>
    refine .inl (reply fun t ht => ?_)
    obtain ⟨override, -, -, -, -, -, rfl⟩ := State.eraseSegment_ok ht
    rfl
  | eraseBank flag =>
    refine .inl (reply fun t ht => ?_)
    obtain ⟨override, -, -, -, -, rfl⟩ := State.eraseBank_ok ht
    rfl
  | copySegment n =>
    refine .inl (reply fun t ht => ?_)
    obtain ⟨a, -, -, -, -, ⟨-, rfl⟩ | ⟨-, rfl⟩⟩ := State.copySegment_ok ht
    · exact (State.storeFrame_copyNext _ _ _ _).after rfl
    · rfl
  | lockSegment b n =>
    refine .inl (reply fun t ht => ?_)
    obtain ⟨-, -, ⟨-, rfl⟩ | ⟨-, rfl⟩⟩ := State.lockSegment_ok ht <;> rfl
  | checkBank =>
    refine .inl (reply fun t ht => ?_)
    obtain ⟨-, -, rfl⟩ := State.checkBank_ok ht
    rfl
  | commit w =>
    refine .inl (reply fun t ht => ?_)
    obtain ⟨-, -, ⟨-, rfl⟩ | ⟨-, rfl⟩⟩ := State.commit_ok ht <;> rfl

end Sys2Proof.Machine
end

section
/-! PROOFS. Everything a command can do to the Upline Transmit Queue, the hold list and the management holder, said
once (`ReturnMove`), and R105 kept by every step: what comes in waits outside the queue only while the queue is
full, and what UT takes is made good from what waits (R104 to R114). -/

namespace Sys2Proof.Machine

/-- The part of the state that R105 speaks of: the Upline Transmit Queue, the hold list and the management
holder. -/
def State.returnView (s : State) : List Frame × List Tag × Option Frame :=
  (s.rt.uq, s.rt.holdList, s.me.holder)

theorem State.returnView_eq {s : State} {uq : List Frame} {held : List Tag} {holder : Option Frame} :
    s.returnView = (uq, held, holder) ↔ s.rt.uq = uq ∧ s.rt.holdList = held ∧ s.me.holder = holder := by
  simp only [State.returnView, Prod.mk.injEq]

/-- One thing done to the queue, the hold list and the holder between two states. -/
inductive State.ReturnMove (s t : State) : Prop
  /-- Nothing. -/
  | unchanged (ht : t.returnView = s.returnView)
  /-- A reply is appended to a queue with room (R106). -/
  | queued {f : Frame} (hroom : s.rt.uq.length < 16)
      (ht : t.returnView = (s.rt.uq ++ [f], s.rt.holdList, s.me.holder))
  /-- A delivered reply is held, the queue being full (R90). -/
  | held {g : Tag} (hfull : 16 ≤ s.rt.uq.length)
      (ht : t.returnView = (s.rt.uq, s.rt.holdList ++ [g], s.me.holder))
  /-- A management reply waits in the holder, the queue being full (R106). -/
  | waits {f : Frame} (hfull : 16 ≤ s.rt.uq.length) (ht : t.returnView = (s.rt.uq, s.rt.holdList, some f))
  /-- UT takes the head of the queue, and nothing waits for the place (R108, R109). -/
  | taken {f : Frame} {rest : List Frame} (huq : s.rt.uq = f :: rest) (hheld : s.rt.holdList = [])
      (hholder : s.me.holder = none) (ht : t.returnView = (rest, [], none))
  /-- UT takes the head of the queue, and the holder's reply fills the place (R108, R109). -/
  | filledByHolder {f reply : Frame} {rest : List Frame} (huq : s.rt.uq = f :: rest)
      (hholder : s.me.holder = some reply) (ht : t.returnView = (rest ++ [reply], s.rt.holdList, none))
  /-- UT takes the head of the queue, and the reply held longest fills the place (R108 to R110). -/
  | filledByHeld {f reply : Frame} {rest : List Frame} {g : Tag} {held : List Tag} (huq : s.rt.uq = f :: rest)
      (hheld : s.rt.holdList = g :: held) (hholder : s.me.holder = none)
      (ht : t.returnView = (rest ++ [reply], held, none))
  /-- A flush empties the hold list (R112). -/
  | flushed (ht : t.returnView = (s.rt.uq, [], s.me.holder))
  /-- A restart, reset or the loss of power empties all three (R113, R114). -/
  | swept (ht : t.returnView = ([], [], none))

/-- What one command does to them: one such thing after another. -/
abbrev State.ReturnMoves : State → State → Prop := Relation.ReflTransGen State.ReturnMove

/-! ### The law -/

theorem State.upQueueLaw_of_view {t : State} {uq : List Frame} {held : List Tag} {holder : Option Frame}
    (ht : t.returnView = (uq, held, holder)) (hlength : uq.length ≤ 16)
    (hempty : uq.length < 16 → held = [] ∧ holder = none) : t.UpQueueLaw := by
  obtain ⟨rfl, rfl, rfl⟩ := State.returnView_eq.1 ht
  exact ⟨hlength, hempty⟩

/-- A queue that something waited for is full, and full again when its head is taken and its place filled. -/
theorem State.UpQueueLaw.refilled {s t : State} (hs : s.UpQueueLaw) {f reply : Frame} {rest : List Frame}
    {held : List Tag} {holder : Option Frame} (huq : s.rt.uq = f :: rest)
    (hwaited : s.rt.holdList ≠ [] ∨ s.me.holder ≠ none) (ht : t.returnView = (rest ++ [reply], held, holder)) :
    t.UpQueueLaw := by
  obtain ⟨hlength, hempty⟩ := hs
  have hfull : ¬ s.rt.uq.length < 16 := fun hroom =>
    hwaited.elim (fun hne => hne (hempty hroom).1) fun hne => hne (hempty hroom).2
  have hsame : (rest ++ [reply]).length = s.rt.uq.length := by
    simp only [huq, List.length_append, List.length_cons, List.length_nil]
  exact State.upQueueLaw_of_view ht (hsame.trans_le hlength) fun hroom => absurd (hsame ▸ hroom) hfull

theorem State.ReturnMove.upQueueLaw {s t : State} (h : s.ReturnMove t) (hs : s.UpQueueLaw) : t.UpQueueLaw := by
  have ⟨hlength, hempty⟩ := hs
  cases h with
  | unchanged ht => exact State.upQueueLaw_of_view ht hlength hempty
  | queued hroom ht =>
    refine State.upQueueLaw_of_view ht ?_ fun _ => hempty hroom
    rw [List.length_append]
    exact hroom
  | held hfull ht => exact State.upQueueLaw_of_view ht hlength fun hroom => absurd hroom (Nat.not_lt.2 hfull)
  | waits hfull ht => exact State.upQueueLaw_of_view ht hlength fun hroom => absurd hroom (Nat.not_lt.2 hfull)
  | taken huq _ _ ht =>
    rw [huq, List.length_cons] at hlength
    exact State.upQueueLaw_of_view ht (Nat.le_of_succ_le hlength) fun _ => ⟨rfl, rfl⟩
  | filledByHolder huq hholder ht => exact hs.refilled huq (.inr (hholder.trans_ne nofun)) ht
  | filledByHeld huq hheld _ ht => exact hs.refilled huq (.inl (hheld.trans_ne nofun)) ht
  | flushed ht => exact State.upQueueLaw_of_view ht hlength fun hroom => ⟨rfl, (hempty hroom).2⟩
  | swept ht => exact State.upQueueLaw_of_view ht (Nat.zero_le _) fun _ => ⟨rfl, rfl⟩

theorem State.ReturnMoves.upQueueLaw {s t : State} (h : s.ReturnMoves t) (hs : s.UpQueueLaw) : t.UpQueueLaw := by
  induction h with
  | refl => exact hs
  | tail _ hmove ih => exact hmove.upQueueLaw ih

/-! ### Moves -/

section Moves
variable {s u t : State}

theorem State.ReturnMoves.of_view (h : t.returnView = s.returnView) : s.ReturnMoves t := .single (.unchanged h)

theorem State.ReturnMoves.of_swept (h : t.returnView = ([], [], none)) : s.ReturnMoves t := .single (.swept h)

theorem State.ReturnMoves.from_view (h : u.ReturnMoves t) (hu : u.returnView = s.returnView) : s.ReturnMoves t :=
  (State.ReturnMoves.of_view hu).trans h

theorem State.StoreFrame.returnView (h : s.StoreFrame t) : t.returnView = s.returnView := by
  unfold State.StoreFrame at h
  rw [h]
  rfl

end Moves

/-! ### What leaves it as it is -/

section Unchanged
variable (s : State)

@[simp] theorem State.count_returnView (c : Counter) : (s.count c).returnView = s.returnView := rfl
@[simp] theorem State.setTag_returnView (t : Tag) (x : TagState) : (s.setTag t x).returnView = s.returnView := rfl
@[simp] theorem State.freeTag_returnView (t : Tag) : (s.freeTag t).returnView = s.returnView := rfl
@[simp] theorem State.withdraw_returnView (t : Tag) : (s.withdraw t).returnView = s.returnView := rfl
@[simp] theorem State.withKey_returnView (level : Bool) : (s.withKey level).returnView = s.returnView := rfl
@[simp] theorem State.restart_returnView : s.restart.returnView = ([], [], none) := rfl

@[simp] theorem State.setReceiver_returnView (r : Receiver) (line : Line) :
    (s.setReceiver r line).returnView = s.returnView := by
  cases line <;> rfl

@[simp] theorem State.setAwaitsHigh_returnView (b : Bool) (line : Line) :
    (s.setAwaitsHigh b line).returnView = s.returnView := by
  cases line <;> rfl

@[simp] theorem State.endRecord_returnView (t : Tag) (r : Record) (o : Origin) :
    (s.endRecord t r o).returnView = s.returnView := by
  rcases s.endRecord_cases t r o with ⟨-, h⟩ | ⟨-, -, -, h⟩ | ⟨-, -, h⟩ <;> simp [h]

@[simp] theorem State.restartCutsShort_returnView : s.restartCutsShort.returnView = ([], [], none) := by
  rcases s.restartCutsShort_cases with ⟨-, h⟩ | ⟨_, -, h⟩ <;> rw [h] <;> rfl

end Unchanged

/-! ### Offers and deliveries -/

section Offers
variable (s : State)

theorem State.offerSynthesized_returnMoves (f : Frame) : s.ReturnMoves (s.offerSynthesized f) := by
  rcases s.offerSynthesized_cases f with ⟨hroom, h⟩ | ⟨-, h⟩ <;> rw [h]
  · exact .single (.queued hroom rfl)
  · exact .of_view rfl

theorem State.answer_returnMoves (c : Counter) (reply : Frame) : s.ReturnMoves (s.answer c reply) :=
  ((s.count c).offerSynthesized_returnMoves reply).from_view rfl

theorem State.offerManagement_returnMoves (f : Frame) : s.ReturnMoves (s.offerManagement f) := by
  rcases s.offerManagement_cases f with ⟨hroom, h⟩ | ⟨hfull, h⟩ <;> rw [h]
  · exact .single (.queued hroom rfl)
  · exact .single (.waits hfull rfl)

theorem State.deliver_returnMoves (t : Tag) (r : Record) (reply : Frame) (o : Origin) :
    s.ReturnMoves (s.deliver t r reply o) := by
  rcases s.deliver_cases t r reply o with ⟨hroom, h⟩ | ⟨hfull, h⟩ <;> rw [h]
  · exact .single (.queued hroom (State.endRecord_returnView _ _ _ _))
  · exact .single (.held hfull rfl)

end Offers

/-! ### Good frames -/

section Frames
variable (s : State)

theorem State.stationRequest_returnMoves (f : Frame) : s.ReturnMoves (s.stationRequest f) := by
  unfold State.stationRequest
  split
  · exact .refl
  · exact s.answer_returnMoves _ _
  · rename_i v _
    split
    · exact .of_view rfl
    · rcases s.translate_cases v f with h | ⟨exc, payload, h⟩ | ⟨n, e, p, -, -, h⟩ <;> rw [h]
      · exact .of_view rfl
      · exact s.answer_returnMoves _ _
      · rcases s.forward_cases v n p f with ⟨-, h⟩ | ⟨-, -, h⟩ | ⟨g, rest, -, -, h⟩ <;> rw [h]
        · exact s.answer_returnMoves _ _
        · exact s.answer_returnMoves _ _
        · exact .of_view rfl

theorem State.takeRequest_returnMoves (f : Frame) : s.ReturnMoves (s.takeRequest f) := by
  unfold State.takeRequest
  split
  · exact .of_view rfl
  · rcases s.broadcastRequest_cases f with h | h | h | ⟨p, -, h⟩ <;> rw [h]
    · exact .of_view rfl
    · exact .of_view rfl
    · exact .of_view rfl
  · exact s.stationRequest_returnMoves f

theorem State.takeReply_returnMoves (f : Frame) : s.ReturnMoves (s.takeReply f) := by
  unfold State.takeReply
  split
  · rcases s.matchReply_cases ⟨f.seq.toNat, _⟩ f with
      h | h | ⟨r, -, -, ⟨-, h⟩ | ⟨-, h⟩ | ⟨-, h⟩⟩ <;> rw [h]
    · exact .of_view rfl
    · exact .of_view rfl
    · exact s.deliver_returnMoves _ _ _ _
    · exact (State.deliver_returnMoves _ _ _ _ _).from_view (s.withdraw_returnView _)
    · exact s.deliver_returnMoves _ _ _ _
  · exact .of_view rfl

theorem Command.run_returnMoves (f : Frame) (c : Command) : s.ReturnMoves (c.run f s).2 := by
  rcases Command.run_frame f s c with h | h | h | ⟨reply, h⟩
  · exact .of_view h.returnView
  · rw [h]; exact .of_view rfl
  · rw [h]; exact .single (.flushed rfl)
  · rw [h]; exact .of_view rfl

/-- A request executed runs its command and then offers its reply (R170). -/
theorem State.execute_returnMoves (q : Received) : s.ReturnMoves (s.execute q) := by
  have conclude : ∀ (u : State) (a : Answer), u.ReturnMoves (u.conclude q a) := fun u a =>
    (State.offerManagement_returnMoves _ _).from_view rfl
  unfold State.execute
  split
  · exact conclude s _
  · exact (Command.run_returnMoves s q.frame _).trans (conclude _ _)

theorem State.takeManagement_returnMoves (q : Received) : s.ReturnMoves (s.takeManagement q) := by
  unfold State.takeManagement
  split
  · exact .refl
  · exact .refl
  · split
    · exact .of_view rfl
    · unfold State.replayOrExecute
      split
      · split
        · exact s.offerManagement_returnMoves _
        · exact s.execute_returnMoves q
      · exact s.execute_returnMoves q

theorem State.handOn_returnMoves (q : Received) (line : Line) : s.ReturnMoves (s.handOn q line) := by
  cases line with
  | downline => exact s.takeReply_returnMoves q.frame
  | upline =>
    change s.ReturnMoves (s.handOnUpline q)
    rcases s.handOnUpline_cases q with ⟨-, -, -, h⟩ | ⟨-, h⟩ <;> rw [h]
    · exact s.takeManagement_returnMoves q
    · exact s.takeRequest_returnMoves q.frame

theorem State.receive_returnMoves (line : Line) (x : Receiver × Arrival) : s.ReturnMoves (s.receive line x) := by
  rcases s.receive_cases line x with ⟨-, h⟩ | ⟨-, h⟩ | ⟨-, h⟩ | ⟨q, -, h⟩ <;> rw [h]
  · exact .of_view (by simp)
  · exact .of_view (by simp)
  · exact .of_view (by simp)
  · exact (State.handOn_returnMoves _ q line).from_view (by simp)

end Frames

/-! ### The commands of the lines -/

section Commands
variable {s t : State}

theorem execCharacter_returnMoves {fall : Fall} {byte : Byte} {lead keysw : Bool}
    (h : execCharacter fall byte lead keysw s = .next t) : s.ReturnMoves t := by
  obtain rfl := Host.Outcome.next.inj h
  have key : ((s.withKey keysw).setAwaitsHigh false fall.line).returnView = s.returnView := by simp
  split
  · simp only
    split
    · exact (State.receive_returnMoves ((s.withKey keysw).setAwaitsHigh false fall.line) _ _).from_view key
    · exact .of_view key
  · exact .of_view rfl

theorem execCharacterError_returnMoves {fall : Fall} (h : execCharacterError fall s = .next t) :
    s.ReturnMoves t := by
  obtain rfl := Host.Outcome.next.inj h
  split
  · simp only
    split
    · exact (State.receive_returnMoves _ _ _).from_view (by simp)
    · exact .of_view (by simp)
  · exact .refl

theorem execGapTimerExpiry_returnMoves {line : Line} (h : execGapTimerExpiry line s = .next t) :
    s.ReturnMoves t := by
  unfold execGapTimerExpiry at h
  split at h
  · obtain rfl := Host.Outcome.next.inj h
    exact s.receive_returnMoves line _
  · cases h

theorem execStartBit_returnMoves {fall : Fall} (h : execStartBit fall s = .next t) : s.ReturnMoves t := by
  obtain rfl := Host.Outcome.next.inj h
  split
  · exact .of_view (by simp)
  · exact .refl

/-- The arbiter makes good the place that UT's taking has freed, from what waits for it (R108 to R110). -/
theorem State.arbitrate_returnMove {u : State} {f : Frame} {rest : List Frame} (huq : s.rt.uq = f :: rest)
    (hu : u.returnView = (rest, s.rt.holdList, s.me.holder)) (h : u.arbitrate = .next t) : s.ReturnMove t := by
  obtain ⟨hrest, hheld, hholder⟩ := State.returnView_eq.1 hu
  rcases State.arbitrate_next h with ⟨reply, hreply, rfl⟩ | ⟨hnone, hnil, rfl⟩
    | ⟨g, held, r, reply, o, hnone, hcons, -, -, rfl⟩
  · refine .filledByHolder huq (hholder.symm.trans hreply) (State.returnView_eq.2 ⟨?_, hheld, rfl⟩)
    exact congrArg (· ++ [reply]) hrest
  · exact .taken huq (hheld.symm.trans hnil) (hholder.symm.trans hnone)
      (State.returnView_eq.2 ⟨hrest, hnil, hnone⟩)
  · refine .filledByHeld (reply := reply) huq (hheld.symm.trans hcons) (hholder.symm.trans hnone) ?_
    rw [State.endRecord_returnView]
    exact State.returnView_eq.2 ⟨congrArg (· ++ [reply]) hrest, rfl, hnone⟩

theorem execUtTake_returnMoves (h : execUtTake s = .next t) : s.ReturnMoves t := by
  have settle : ∀ u : State, u.ReturnMoves u.settleRestart := by
    intro u
    unfold State.settleRestart
    split
    · exact .of_swept u.restartCutsShort_returnView
    · exact .refl
  unfold execUtTake at h
  split at h
  · cases h
  split at h
  · obtain rfl := Host.Outcome.next.inj h
    exact settle s
  · rename_i f rest huq
    unfold settled at h
    split at h
    · rename_i u hu
      obtain rfl := Host.Outcome.next.inj h
      exact .head (State.arbitrate_returnMove huq rfl hu) (settle u)
    · rename_i hno
      exact absurd h (hno t)

theorem execUplineFrameSent_returnMoves (h : execUplineFrameSent s = .next t) : s.ReturnMoves t := by
  unfold execUplineFrameSent at h
  split at h
  · cases h
  · obtain rfl := Host.Outcome.next.inj h
    split
    · rcases s.restartReported_cases with ⟨-, h⟩ | ⟨-, -, h⟩ <;> rw [h]
      · exact .of_swept s.restart_returnView
      · exact .of_view rfl
    · exact .of_view rfl

theorem execDtTake_returnMoves (h : execDtTake s = .next t) : s.ReturnMoves t := by
  unfold execDtTake at h
  split at h
  · cases h
  split at h
  · obtain rfl := Host.Outcome.next.inj h
    exact .refl
  · obtain ⟨r, -, rfl⟩ := State.sendTracked_next h
    exact .of_view rfl
  · obtain rfl := Host.Outcome.next.inj h
    exact .of_view rfl

theorem execDownlineFrameSent_returnMoves (h : execDownlineFrameSent s = .next t) : s.ReturnMoves t := by
  unfold execDownlineFrameSent at h
  split at h
  · cases h
  · rename_i d _
    obtain rfl := Host.Outcome.next.inj h
    cases d.current <;> exact .of_view rfl

/-! ### The timers -/

theorem execReplyTimerExpiry_returnMoves {g : Tag} (h : execReplyTimerExpiry g s = .next t) :
    s.ReturnMoves t := by
  unfold execReplyTimerExpiry at h
  split at h
  · split at h
    · obtain rfl := Host.Outcome.next.inj h
      split
      · exact .of_view rfl
      · exact (State.deliver_returnMoves _ _ _ _ _).from_view (s.count_returnView .noReply)
    · cases h
  · cases h

theorem execQuarantineExpiry_returnMoves {g : Tag} (h : execQuarantineExpiry g s = .next t) :
    s.ReturnMoves t := by
  unfold execQuarantineExpiry at h
  split at h
  · obtain rfl := Host.Outcome.next.inj h
    exact .of_view rfl
  · cases h

theorem execQuietPeriodExpiry_returnMoves (h : execQuietPeriodExpiry s = .next t) : s.ReturnMoves t := by
  unfold execQuietPeriodExpiry at h
  split at h
  · obtain rfl := Host.Outcome.next.inj h
    exact .of_view rfl
  · cases h

/-! ### Power and RESET_N -/

theorem exec_powerEvent_returnMoves {c : Instr} (hc : isPowerEvent c = true) (h : exec c s = .next t) :
    s.ReturnMoves t := by
  cases c with
  | powerOn rate madr =>
    change execPowerOn rate madr s = _ at h
    unfold execPowerOn at h
    split at h
    · cases h
    · obtain rfl := Host.Outcome.next.inj h
      split <;> exact .of_swept rfl
  | powerFail =>
    change execPowerFail s = _ at h
    unfold execPowerFail at h
    split at h
    · obtain rfl := Host.Outcome.next.inj h
      exact .of_swept rfl
    · cases h
  | resetNFall =>
    change execResetNFall s = _ at h
    unfold execResetNFall at h
    split at h
    · obtain rfl := Host.Outcome.next.inj h
      split
      · exact .of_swept rfl
      · exact .of_view rfl
    · cases h
  | resetNRelease rate madr =>
    change execResetNRelease rate madr s = _ at h
    unfold execResetNRelease at h
    split at h
    · cases h
    · obtain rfl := Host.Outcome.next.inj h
      split
      · exact .of_swept rfl
      · exact .of_view rfl
  | _ => cases hc

/-! ### Everything a command can do to the queue, the hold list and the holder -/

theorem exec_returnMoves {c : Instr} (h : exec c s = .next t) : s.ReturnMoves t := by
  cases hp : isPowerEvent c with
  | true => exact exec_powerEvent_returnMoves hp h
  | false =>
    cases hc : isStageEvent c with
    | true =>
      by_cases hstart : c = .startUpScan ∨ c = .pointerSelection
      · exact .of_view (exec_startUp_frame hstart h).returnView
      · exact .of_view (exec_storeStage_frame hc hstart h).returnView
    | false =>
      cases c with
      | character fall byte lead keysw => exact execCharacter_returnMoves h
      | characterError fall => exact execCharacterError_returnMoves h
      | gapTimerExpiry line => exact execGapTimerExpiry_returnMoves h
      | utTake => exact execUtTake_returnMoves h
      | uplineFrameSent => exact execUplineFrameSent_returnMoves h
      | dtTake => exact execDtTake_returnMoves h
      | downlineFrameSent => exact execDownlineFrameSent_returnMoves h
      | replyTimerExpiry g => exact execReplyTimerExpiry_returnMoves h
      | quarantineExpiry g => exact execQuarantineExpiry_returnMoves h
      | quietPeriodExpiry => exact execQuietPeriodExpiry_returnMoves h
      | startBit fall => exact execStartBit_returnMoves h
      | powerOn | powerFail | resetNFall | resetNRelease => cases hp
      | _ => cases hc

end Commands

theorem State.tick_returnMoves (s : State) : s.ReturnMoves s.tick := by
  rcases s.tick_cases with ⟨-, h⟩ | ⟨-, h⟩ <;> rw [h]
  · exact .of_swept s.restart_returnView
  · exact .of_view rfl

theorem step_returnMoves {s t : State} (h : step s = .next t) : s.ReturnMoves t := by
  unfold step at h
  split at h
  · obtain rfl := Host.Outcome.next.inj h
    exact s.tick_returnMoves
  · exact (exec_returnMoves h).from_view rfl

/-- Settles O13: a step is made of moves of the Return Path, and each of them keeps the law. -/
theorem uplineQueueLawKept : Obligations.UplineQueueLawKept :=
  ⟨lawsHoldAfterReset.upQueue, fun _ _ hs h => (step_returnMoves h).upQueueLaw hs⟩

end Sys2Proof.Machine
end

section
/-! PROOFS. The intake of a management request, test by test: the RESTART that is pending or due, the holder, the
replay record, the Engine's own tests, and the command run (R167 to R171). -/

namespace Sys2Proof.Machine

/-- A management request reaches the Engine with its last character (R13). -/
theorem State.Completes.exec_management {s : State} {f : Frame} (h : s.Completes .upline f) (hdir : f.dir = false)
    (hexc : f.exc = false) (haddr : f.addr = s.mgmtAddr) (keysw rested : Bool) :
    exec (f.lastCharacter .upline keysw rested) s
      = .next ((s.afterFrame .upline keysw).takeManagement f.whole) := by
  rw [h.exec_lastCharacter]
  exact congrArg _ (State.handOnUpline_management hdir hexc (haddr.trans (s.afterFrame_mgmtAddr ..).symm))

/-- While a RESTART is pending or due the Engine discards what reaches it (R167). -/
theorem State.takeManagement_restarting {s : State} (h : s.me.state ≠ .ready) (q : Received) :
    s.takeManagement q = s := by
  unfold State.takeManagement
  split
  · rfl
  · rfl
  · rename_i hready
    exact absurd hready h

/-- With a reply in the holder the Engine discards what reaches it, and counts it (R168). -/
theorem State.takeManagement_overrun {s : State} {m : Frame} (hready : s.me.state = .ready)
    (hholder : s.me.holder = some m) (q : Received) : s.takeManagement q = s.count .mgmtOverrun := by
  simp only [State.takeManagement, hready, hholder, Option.isSome_some, if_true]

theorem Replay.isFor_iff (p : Replay) (q : Received) :
    p.isFor q = true ↔ p.tag = q.frame.seq ∧ p.fn = q.frame.fn ∧ p.check = q.check := by
  simp only [Replay.isFor, Bool.and_eq_true, decide_eq_true_eq, and_assoc]

/-- A replay is answered with the stored reply (R169). -/
theorem State.takeManagement_replay {s : State} {p : Replay} {q : Received} (hready : s.me.state = .ready)
    (hholder : s.me.holder = none) (hreplay : s.me.replay = some p) (hsame : p.isFor q = true) :
    s.takeManagement q = s.offerManagement p.reply := by
  simp only [State.takeManagement, hready, hholder, Option.isSome_none, Bool.false_eq_true, if_false,
    State.replayOrExecute, hreplay, hsame, if_true]

theorem Frame.managementReply_refusal (f : Frame) (d : Declined) :
    f.managementReply (.refusal d) = f.ownReply true [d.code] := rfl

/-- A refusal is recorded for replay and offered to the Return Path (R106, R170, R171). -/
theorem State.conclude_refusal (s : State) (f : Frame) (d : Declined) :
    s.conclude f.whole (.refusal d) = s.answered f true [d.code] := by
  simp only [State.conclude, State.answered, State.offerManagement_eq, State.enqueueUp, Frame.whole_frame,
    Frame.whole_check, Frame.managementReply_refusal]

/-- A request that fails the Engine's own tests is answered with their refusal (R171, R172). -/
theorem State.Executes.exec_declined {s : State} {f : Frame} {d : Declined} (h : s.Executes f)
    (keysw rested : Bool) (hparse : Command.parse f.fn f.payload = .error d) :
    exec (f.lastCharacter .upline keysw rested) s
      = .next ((s.afterFrame .upline keysw).answered f true [d.code]) := by
  simp only [h.exec_eq, State.execute, Frame.whole_frame, hparse, State.conclude_refusal]

/-- A command that is refused leaves its state with that refusal (R170, R171). -/
theorem State.Executes.exec_refused {s t : State} {f : Frame} {c : Command} {d : Declined}
    (h : s.Executes f) {keysw : Bool} (rested : Bool) (hparse : Command.parse f.fn f.payload = .ok c)
    (hrun : c.run f (s.afterFrame .upline keysw) = (.refusal d, t)) :
    exec (f.lastCharacter .upline keysw rested) s = .next (t.answered f true [d.code]) := by
  simp only [h.exec_eq, State.execute, Frame.whole_frame, hparse, hrun, State.conclude_refusal]

/-- Settles O57: the Engine's tests in their order, read off the state that the frame leaves. -/
theorem managementIntake : Obligations.ManagementIntake := by
  intro s f keysw rested hc hdir hexc haddr u
  have intake := hc.exec_management hdir hexc haddr keysw rested
  have hstate : u.me.state = s.me.state := s.afterFrame_engineState .upline keysw
  have hholder : u.me.holder = s.me.holder := s.afterFrame_holder .upline keysw
  have hreplay : u.me.replay = s.me.replay := s.afterFrame_replay .upline keysw
  refine ⟨fun hrestart => ?pending, fun hready m hm => ?overrun, fun hready hnone p hp htag hfn hcheck => ?replay,
    fun h => ⟨fun d hparse => h.exec_declined keysw rested hparse, fun c hparse =>
      ⟨fun p t hrun _ => h.exec_normal rested hparse hrun, fun d hrun => h.exec_refused rested hparse hrun⟩⟩⟩
  case pending =>
    have hbusy : u.me.state ≠ .ready := by
      rw [hstate]
      rcases hrestart with ⟨reply, h⟩ | h <;> exact h.trans_ne nofun
    rw [intake, State.takeManagement_restarting hbusy]
  case overrun =>
    rw [intake, State.takeManagement_overrun (hstate.trans hready) (hholder.trans hm)]
  case replay =>
    have hsame : p.isFor f.whole = true := (p.isFor_iff _).2 ⟨htag, hfn, by rw [hcheck, Frame.whole_check]⟩
    rw [intake, State.takeManagement_replay (hstate.trans hready) (hholder.trans hnone) (hreplay.trans hp) hsame,
      State.offerManagement_eq, State.afterFrame_rt]
    rfl

end Sys2Proof.Machine
end

section
/-! PROOFS. The store commands at their intake: the tests every one of them meets, what the Engine makes of the
store's answer, and what an accepted command leaves of the store status (R120 to R122, R171, R179). CLEAR FAULT
and RESTART (R147, R165, R181, R183). -/

namespace Sys2Proof.Machine

/-! ### What the Engine makes of the store's answer -/

/-- A refusal of the store is the reply, and the state is as it was (R122). -/
theorem State.storeReply_refusal {s t : State} {payload : State → List Byte} {x : Except Declined State}
    {d : Declined} (h : s.storeReply payload x = (.refusal d, t)) : t = s := by
  cases x with
  | ok u => cases h
  | error e => exact (Prod.mk.inj h).2.symm

theorem State.requestRestart_refusal {s t : State} {f : Frame} {d : Declined}
    (h : s.requestRestart f = (.refusal d, t)) : t = s := by
  unfold State.requestRestart at h
  split at h
  · exact (Prod.mk.inj h).2.symm
  · cases h

/-- A normal reply to a store command is the operation number of the state the store leaves (R171, R179). -/
theorem State.accepted_normal {s t : State} {x : Except Declined State} {p : List Byte}
    (h : s.accepted x = (.normal p, t)) : x = .ok t ∧ p = [t.ts.opNumber] := by
  cases x with
  | error d => cases h
  | ok u =>
    obtain ⟨hp, rfl⟩ := Prod.mk.inj h
    exact ⟨rfl, (Answer.normal.inj hp).symm⟩

/-- A refused management command, of any kind, changes nothing (R122, R172, R183). -/
theorem Command.run_refusal {f : Frame} {s t : State} {c : Command} {d : Declined}
    (h : c.run f s = (.refusal d, t)) : t = s := by
  cases c with
  | readStatus | readCounters | readAndClearCounters | readEntry | readHeader | readTracker | readSegments
  | flushTracker => cases h
  | restart => exact State.requestRestart_refusal h
  | stageEntry | discardStage | programStage | programHeader | eraseSegment | eraseBank | copySegment | lockSegment
  | checkBank | commit | clearFault => exact State.storeReply_refusal h

/-! ### BUSY, then FAULTED -/

/-- A store command whose image and override flag are legal is the two tests and then its own (R122). -/
theorem Command.run_storeTests {s : State} {f : Frame} {c : Command}
    (hc : (∃ image h, c = .programHeader image ∧ Header.ofImage image = some h)
      ∨ (∃ n flag o, c = .eraseSegment n flag ∧ overrideOf flag = some o)
      ∨ (∃ flag o, c = .eraseBank flag ∧ overrideOf flag = some o)
      ∨ c = .programStage ∨ (∃ n, c = .copySegment n) ∨ (∃ b n, c = .lockSegment b n)
      ∨ c = .checkBank ∨ ∃ w, c = .commit w) :
    ∃ rest, c.run f s = s.accepted (s.storeTests rest) := by
  rcases hc with ⟨image, x, rfl, hx⟩ | ⟨n, flag, o, rfl, ho⟩ | ⟨flag, o, rfl, ho⟩ | rfl | ⟨n, rfl⟩ | ⟨b, n, rfl⟩
    | rfl | ⟨w, rfl⟩
  · exact ⟨_, by rw [Command.run, State.programHeader, hx]⟩
  · exact ⟨_, by rw [Command.run, State.eraseSegment, ho]⟩
  · exact ⟨_, by rw [Command.run, State.eraseBank, ho]⟩
  all_goals exact ⟨_, rfl⟩

/-! ### The operation number -/

/-- An operation accepted: the operation number one higher, the last operation this one (R121). -/
def State.Numbered (s t : State) (last : LastOp) : Prop :=
  t.ts.opNumber = s.ts.opNumber + 1 ∧ t.ts.lastOp = last

section Numbered
variable {s t : State}

theorem State.numbered_programStage (h : s.programStage = .ok t) : s.Numbered t .programStage := by
  obtain ⟨p, entries, -, -, -, -, ⟨-, rfl⟩ | ⟨-, rfl⟩⟩ := State.programStage_ok h
  · rcases (s.accept .programStage).programNext_cases s.standby (nextStaged p entries 0) with
      ⟨n, e, -, h⟩ | ⟨-, h⟩ <;> rw [h] <;> exact ⟨rfl, rfl⟩
  · exact ⟨rfl, rfl⟩

theorem State.numbered_programHeader {image : List Byte} (h : s.programHeader image = .ok t) :
    s.Numbered t .programHeader := by
  obtain ⟨x, -, -, -, ⟨-, rfl⟩ | ⟨-, rfl⟩⟩ := State.programHeader_ok h <;> exact ⟨rfl, rfl⟩

theorem State.numbered_eraseSegment {n : SegmentNo} {flag : Byte} (h : s.eraseSegment n flag = .ok t) :
    s.Numbered t .eraseSegment := by
  obtain ⟨o, -, -, -, -, -, rfl⟩ := State.eraseSegment_ok h
  exact ⟨rfl, rfl⟩

theorem State.numbered_eraseBank {flag : Byte} (h : s.eraseBank flag = .ok t) : s.Numbered t .eraseBank := by
  obtain ⟨o, -, -, -, -, rfl⟩ := State.eraseBank_ok h
  exact ⟨rfl, rfl⟩

theorem State.numbered_copySegment {n : SegmentNo} (h : s.copySegment n = .ok t) :
    s.Numbered t .copySegment := by
  obtain ⟨a, -, -, -, -, ⟨-, rfl⟩ | ⟨-, rfl⟩⟩ := State.copySegment_ok h
  · rcases (s.accept .copySegment).copyNext_cases s.standby n ((s.nv.bank a).nextToCopy n 0) with
      ⟨i, e, -, h⟩ | ⟨-, h⟩ <;> rw [h] <;> exact ⟨rfl, rfl⟩
  · exact ⟨rfl, rfl⟩

theorem State.numbered_lockSegment {b : BankId} {n : SegmentNo} (h : s.lockSegment b n = .ok t) :
    s.Numbered t .lockSegment := by
  obtain ⟨-, -, ⟨-, rfl⟩ | ⟨-, rfl⟩⟩ := State.lockSegment_ok h <;> exact ⟨rfl, rfl⟩

theorem State.numbered_checkBank (h : s.checkBank = .ok t) : s.Numbered t .checkBank := by
  obtain ⟨-, -, rfl⟩ := State.checkBank_ok h
  exact ⟨rfl, rfl⟩

theorem State.numbered_commit {w : Word} (h : s.commit w = .ok t) : s.Numbered t .commit := by
  obtain ⟨-, -, ⟨-, rfl⟩ | ⟨-, rfl⟩⟩ := State.commit_ok h <;> exact ⟨rfl, rfl⟩

end Numbered

/-- The reply to an accepted store command is its operation number (R121, R179). -/
theorem State.Numbered.answered {s t : State} {x : Except Declined State} {p : List Byte} {last : LastOp}
    (hx : x = .ok t → s.Numbered t last) (h : s.accepted x = (.normal p, t)) :
    t.ts.opNumber = s.ts.opNumber + 1 ∧ t.ts.lastOp = last ∧ p = [t.ts.opNumber] := by
  obtain ⟨hok, hp⟩ := State.accepted_normal h
  obtain ⟨hnumber, hlast⟩ := hx hok
  exact ⟨hnumber, hlast, hp⟩

/-- Settles O48: the two tests, the operation number, and the store's answer as the reply. -/
theorem storeCommandsAtIntake : Obligations.StoreCommandsAtIntake := by
  refine ⟨fun s f c hc => ?tests, ⟨fun s t f c d => Command.run_refusal, ?number⟩, ?operations⟩
  case tests =>
    obtain ⟨rest, hrun⟩ := Command.run_storeTests (s := s) (f := f) hc
    refine ⟨fun hbusy => ?_, fun ho hf => ?_⟩
    · rw [hrun, State.storeTests_busy hbusy]
      rfl
    · rw [hrun, State.storeTests_faulted ho hf]
      rfl
  case number =>
    rintro s t f c p last (⟨rfl, rfl⟩ | ⟨⟨image, rfl⟩, rfl⟩ | ⟨⟨n, o, rfl⟩, rfl⟩ | ⟨⟨o, rfl⟩, rfl⟩ | ⟨⟨n, rfl⟩, rfl⟩
      | ⟨⟨b, n, rfl⟩, rfl⟩ | ⟨rfl, rfl⟩ | ⟨⟨w, rfl⟩, rfl⟩)
    · exact State.Numbered.answered State.numbered_programStage
    · exact State.Numbered.answered State.numbered_programHeader
    · exact State.Numbered.answered State.numbered_eraseSegment
    · exact State.Numbered.answered State.numbered_eraseBank
    · exact State.Numbered.answered State.numbered_copySegment
    · exact State.Numbered.answered State.numbered_lockSegment
    · exact State.Numbered.answered State.numbered_checkBank
    · exact State.Numbered.answered State.numbered_commit
  case operations =>
    intro s f reply
    have answer : ∀ x, s.accepted x = reply x := fun x => by cases x <;> rfl
    exact ⟨answer _, fun _ => answer _, fun _ _ => answer _, fun _ => answer _, fun _ => answer _,
      fun _ _ => answer _, answer _, fun _ => answer _⟩

/-! ### CLEAR FAULT and RESTART -/

theorem State.clearFault_busy {s : State} (h : s.ts.op.isSome = true) : s.clearFault = .error .busy := if_pos h

/-- With the store IDLE the latch is cleared, and a part out of reset asserts ALERT_N outside RUNNING alone (R147,
R165). -/
theorem State.clearFault_idle {s : State} (ho : s.ts.op = none) (hout : s.outOfReset = true) :
    s.clearFault = .ok { s with
      ts := { s.ts with faultLatch := false }
      pins := { s.pins with alert := !s.ts.mode.isRunning } } := by
  have hpins : s.pins.powered = true ∧ s.pins.resetN = true := by simpa [State.outOfReset] using hout
  simp [State.clearFault, ho, State.driveAlert, State.alertLevel, hpins]

theorem State.requestRestart_busy {s : State} (h : s.ts.op.isSome = true) (f : Frame) :
    s.requestRestart f = (.refusal .busy, s) := if_pos h

theorem State.requestRestart_idle {s : State} (h : s.ts.op = none) (f : Frame) :
    s.requestRestart f = (.normal [], { s with me := { s.me with
      state := .restartPending (f.ownReply false []) } }) := by
  rw [State.requestRestart, h]
  rfl

/-- A part that a frame completes in is out of reset. -/
theorem State.Completes.afterFrame_outOfReset {s : State} {line : Line} {f : Frame} (h : s.Completes line f)
    (keysw : Bool) : (s.afterFrame line keysw).outOfReset = true := by
  have hout : s.outOfReset = true := by
    have hl := h.listening
    simp only [State.listening, Bool.and_eq_true] at hl
    exact hl.1
  rw [← hout]
  simp only [State.outOfReset, State.afterFrame_pins]

/-- Settles O60: each command's own test of the operation in flight, and what it does past that test. -/
theorem clearFaultAndRestartAtIntake : Obligations.ClearFaultAndRestartAtIntake := by
  intro s f keysw rested h hp u
  have hts : u.ts = s.ts := s.afterFrame_ts .upline keysw
  have clearFault : f.fn = 0x1A#6 → Command.parse f.fn f.payload = .ok .clearFault := fun hfn => by rw [hfn, hp]; rfl
  have restart : f.fn = 0x21#6 → Command.parse f.fn f.payload = .ok .restart := fun hfn => by rw [hfn, hp]; rfl
  refine ⟨fun hfn hop => ?busy, fun hfn hop => ?cleared, fun hfn hop => ?restarting⟩
  case busy =>
    rw [← hts] at hop
    rcases hfn with hfn | hfn
    · refine h.exec_refused rested (clearFault hfn) (d := .busy) ?_
      rw [Command.run, State.clearFault_busy hop]
      rfl
    · exact h.exec_refused rested (restart hfn) (State.requestRestart_busy hop f)
  case cleared =>
    rw [← hts] at hop
    have hrun : Command.clearFault.run f u = (.normal [flagCode s.ts.faultLatch], { u with
        ts := { u.ts with faultLatch := false }
        pins := { u.pins with alert := !s.ts.mode.isRunning } }) := by
      rw [Command.run, State.clearFault_idle hop (h.completes.afterFrame_outOfReset keysw), hts]
      rfl
    exact h.exec_normal rested (clearFault hfn) hrun
  case restarting =>
    rw [← hts] at hop
    exact h.exec_normal rested (restart hfn) (State.requestRestart_idle hop f)

end Sys2Proof.Machine
end

section
/-! PROOFS. What the searches of the Table Store find, each pinned down by the slots themselves: the lowest staged
slot of a page, the lowest VALID slot of a segment, the blank tests and the readiness of a bank (R127, R131, R140,
R155). -/

namespace Sys2Proof.Machine

/-! ### Places of a page -/

@[simp] theorem placeOf_slotAt (p : PageNo) (i : Fin 8) : placeOf (slotAt p i) = i := by
  ext; simp only [placeOf, slotAt]; omega

theorem slotAt_placeOf (n : SlotNo) : slotAt (pageOf n) (placeOf n) = n := by
  ext; simp only [placeOf, slotAt, pageOf]; omega

theorem pageOf_eq_iff (n : SlotNo) (p : PageNo) : pageOf n = p ↔ n.val / 8 = p.val := Fin.ext_iff

theorem segmentOf_eq_iff (n : SlotNo) (g : SegmentNo) : segmentOf n = g ↔ n.val / 64 = g.val := Fin.ext_iff

/-! ### The lowest staged slot (R131) -/

/-- A search through all numbers in their order finds what it accepts at the lowest one. -/
theorem findSome?_finRange_eq_some {α : Type} {n : Nat} {f : Fin n → Option α} {a : α} :
    (List.finRange n).findSome? f = some a ↔ ∃ i, f i = some a ∧ ∀ j, j < i → f j = none := by
  rw [List.findSome?_eq_some_iff]
  constructor
  · rintro ⟨front, i, back, hsplit, hi, hnone⟩
    refine ⟨i, hi, fun j hlt => ?_⟩
    have hsorted := List.pairwise_lt_finRange n
    rw [hsplit, List.pairwise_append, List.pairwise_cons] at hsorted
    obtain ⟨-, ⟨hback, -⟩, -⟩ := hsorted
    have hj : j ∈ front ++ i :: back := hsplit ▸ List.mem_finRange j
    rcases List.mem_append.1 hj with hj | hj
    · exact hnone j hj
    · rcases List.mem_cons.1 hj with rfl | hj
      · exact absurd hlt (lt_irrefl _)
      · exact absurd hlt (hback j hj).not_gt
  · rintro ⟨i, hi, hlow⟩
    obtain ⟨front, back, hsplit⟩ := List.append_of_mem (List.mem_finRange i)
    have hsorted := List.pairwise_lt_finRange n
    rw [hsplit, List.pairwise_append] at hsorted
    obtain ⟨-, -, hfront⟩ := hsorted
    exact ⟨front, i, back, hsplit, hi, fun j hj => hlow j (hfront j hj i List.mem_cons_self)⟩

/-- The entry staged for a slot of the staged page, where there is one. -/
def stagedEntry (entries : Vector (Option Entry) 8) (n : SlotNo) : Option Entry := entries.get (placeOf n)

theorem stagedEntry_slotAt (entries : Vector (Option Entry) 8) (p : PageNo) (i : Fin 8) :
    stagedEntry entries (slotAt p i) = entries.get i := by
  rw [stagedEntry, placeOf_slotAt]

/-- Said of every place of a page, or of every slot that lies in it. -/
theorem forall_slotAt {p : PageNo} {P : SlotNo → Prop} : (∀ i, P (slotAt p i)) ↔ ∀ m, pageOf m = p → P m :=
  ⟨fun h m hm => by
    have hplace := h (placeOf m)
    rwa [← hm, slotAt_placeOf] at hplace, fun h i => h _ (pageOf_slotAt p i)⟩

/-- What the search for the next staged slot makes of one slot of the page. -/
def stagedFrom (entries : Vector (Option Entry) 8) (first : Nat) (m : SlotNo) : Option (SlotNo × Entry) :=
  if first ≤ m.val then (stagedEntry entries m).map fun e => (m, e) else none

theorem stagedFrom_eq_some {entries : Vector (Option Entry) 8} {first : Nat} {m n : SlotNo} {e : Entry} :
    stagedFrom entries first m = some (n, e) ↔ m = n ∧ first ≤ n.val ∧ stagedEntry entries n = some e := by
  simp only [stagedFrom, Option.ite_none_right_eq_some, Option.map_eq_some_iff, Prod.mk.injEq]
  constructor
  · rintro ⟨hle, d, hd, rfl, rfl⟩
    exact ⟨rfl, hle, hd⟩
  · rintro ⟨rfl, hle, he⟩
    exact ⟨hle, e, he, rfl, rfl⟩

theorem stagedFrom_eq_none {entries : Vector (Option Entry) 8} {first : Nat} {m : SlotNo} :
    stagedFrom entries first m = none ↔ (first ≤ m.val → stagedEntry entries m = none) := by
  simp only [stagedFrom, ite_eq_right_iff, Option.map_eq_none_iff]

/-- The search for the next staged slot, said of the slots of the page. -/
theorem nextStaged_eq (p : PageNo) (entries : Vector (Option Entry) 8) (first : Nat) :
    nextStaged p entries first = (List.finRange 8).findSome? fun i => stagedFrom entries first (slotAt p i) := by
  simp only [nextStaged, stagedFrom, stagedEntry_slotAt]

/-- The next staged slot from a number on is the lowest one (R131). -/
theorem nextStaged_eq_some {p : PageNo} {entries : Vector (Option Entry) 8} {first : Nat} {n : SlotNo}
    {e : Entry} :
    nextStaged p entries first = some (n, e) ↔
      pageOf n = p ∧ stagedEntry entries n = some e ∧ first ≤ n.val
        ∧ ∀ m, pageOf m = p → first ≤ m.val → m.val < n.val → stagedEntry entries m = none := by
  rw [nextStaged_eq, findSome?_finRange_eq_some]
  simp only [stagedFrom_eq_some, stagedFrom_eq_none]
  have below : ∀ i, (∀ j, j < i → first ≤ (slotAt p j).val → stagedEntry entries (slotAt p j) = none) ↔
      ∀ m, pageOf m = p → first ≤ m.val → m.val < (slotAt p i).val → stagedEntry entries m = none := fun i => by
    have hlt : ∀ j, j < i ↔ (slotAt p j).val < (slotAt p i).val := fun j => by
      simp only [slotAt, Fin.lt_def]; omega
    simp only [hlt]
    rw [forall_slotAt (P := fun m => m.val < (slotAt p i).val → first ≤ m.val → stagedEntry entries m = none)]
    exact ⟨fun h m hm hle hlt => h m hm hlt hle, fun h m hm hlt hle => h m hm hle hlt⟩
  constructor
  · rintro ⟨i, ⟨rfl, hle, he⟩, hlow⟩
    exact ⟨pageOf_slotAt p i, he, hle, (below i).1 hlow⟩
  · rintro ⟨rfl, he, hle, hlow⟩
    exact ⟨placeOf n, ⟨slotAt_placeOf n, hle, he⟩, (below _).2 (by rwa [slotAt_placeOf])⟩

/-- There is no next staged slot exactly where none is staged from the number on (R131). -/
theorem nextStaged_eq_none {p : PageNo} {entries : Vector (Option Entry) 8} {first : Nat} :
    nextStaged p entries first = none ↔
      ∀ m, pageOf m = p → first ≤ m.val → stagedEntry entries m = none := by
  rw [nextStaged_eq, List.findSome?_eq_none_iff]
  simp only [List.mem_finRange, true_imp_iff, stagedFrom_eq_none]
  exact forall_slotAt (P := fun m => first ≤ m.val → stagedEntry entries m = none)

/-! ### The blank tests and the readiness of a bank (R131, R140, R155) -/

/-- A bank in canonical form lists nothing but what the slots read, and no slot that reads BLANK. -/
theorem Bank.all_slots_iff {k : Bank} (h : SlotMap.Wf k.slots) {keep : SlotNo × Slot → Bool} :
    k.slots.all keep = true ↔ ∀ n, k.slot n ≠ .blank → keep (n, k.slot n) = true := by
  rw [List.all_eq_true]
  constructor
  · exact fun hall n hn => hall _ (SlotMap.mem_of_read hn)
  · rintro hread ⟨n, x⟩ hp
    have hx : k.slot n = x := SlotMap.read_of_mem h hp
    rw [← hx]
    exact hread n (hx ▸ h.2 _ hp)

/-- The blank test of PROGRAM STAGE (R131). -/
theorem Bank.pageBlank_iff {k : Bank} {p : PageNo} {entries : Vector (Option Entry) 8} :
    k.pageBlank p entries = true ↔ k.segments.get (segmentOfPage p) = .normal
      ∧ ∀ i e, entries.get i = some e → k.slot (slotAt p i) = .blank := by
  simp only [Bank.pageBlank, Bool.and_eq_true, decide_eq_true_eq, List.all_eq_true, List.mem_finRange,
    true_imp_iff, Bool.or_eq_true]
  refine and_congr_right fun _ => forall_congr' fun i => ?_
  cases entries.get i <;> simp

/-- The blank test of COPY SEGMENT (R140). -/
theorem Bank.segmentBlank_iff {k : Bank} (h : SlotMap.Wf k.slots) (g : SegmentNo) :
    k.segmentBlank g = true ↔
      k.segments.get g = .normal ∧ ∀ n : SlotNo, n.val / 64 = g.val → k.slot n = .blank := by
  simp only [Bank.segmentBlank, Bool.and_eq_true, decide_eq_true_eq, Bank.all_slots_iff h, ← segmentOf_eq_iff]
  exact and_congr_right fun _ => forall_congr' fun n => not_imp_not

/-- A bank that may be committed (R155). -/
theorem Bank.ready_iff {k : Bank} (h : SlotMap.Wf k.slots) :
    k.ready = true ↔
      (∃ x, k.header = .valid x) ∧ (∀ n, k.slot n ≠ .torn) ∧ ∀ n, k.segments.get n = .normal := by
  unfold Bank.ready
  rw [Bool.and_eq_true, Bool.and_eq_true, and_assoc]
  refine and_congr ?header (and_congr ?slots ?segments)
  case header => cases k.header <;> simp
  case slots =>
    simp only [Bank.all_slots_iff h, decide_eq_true_eq]
    refine forall_congr' fun n => ⟨fun hn htorn => ?_, fun hn _ => hn⟩
    exact hn (by rw [htorn]; nofun) htorn
  case segments => simp only [List.all_eq_true, List.mem_finRange, true_imp_iff, decide_eq_true_eq]

/-! ### The next slot to copy (R140) -/

/-- What the search for the next slot to copy makes of one listed slot. -/
def copiedFrom (g : SegmentNo) (first : Nat) (p : SlotNo × Slot) : Option (SlotNo × Entry) :=
  match p.2 with
  | .valid e => if segmentOf p.1 = g && first ≤ p.1.val then some (p.1, e) else none
  | _ => none

theorem Bank.nextValid_eq (k : Bank) (g : SegmentNo) (first : Nat) :
    k.nextValid g first = k.slots.findSome? (copiedFrom g first) := rfl

theorem copiedFrom_eq_some {g : SegmentNo} {first : Nat} {p : SlotNo × Slot} {n : SlotNo} {e : Entry} :
    copiedFrom g first p = some (n, e) ↔ p = (n, .valid e) ∧ n.val / 64 = g.val ∧ first ≤ n.val := by
  obtain ⟨j, x⟩ := p
  unfold copiedFrom
  cases x with
  | valid d =>
    simp only [Bool.and_eq_true, decide_eq_true_eq, segmentOf_eq_iff, Option.ite_none_right_eq_some,
      Option.some.injEq, Prod.mk.injEq, Element.valid.injEq]
    exact ⟨fun ⟨hj, hn, he⟩ => ⟨⟨hn, he⟩, hn ▸ hj⟩, fun ⟨⟨hn, he⟩, hj⟩ => ⟨hn ▸ hj, hn, he⟩⟩
  | blank | programming | torn => simp

theorem copiedFrom_eq_none {g : SegmentNo} {first : Nat} {p : SlotNo × Slot} :
    copiedFrom g first p = none ↔ ∀ d, p.1.val / 64 = g.val → first ≤ p.1.val → p.2 ≠ .valid d := by
  simp only [Option.eq_none_iff_forall_ne_some, Prod.forall, ne_eq, copiedFrom_eq_some]
  exact ⟨fun h d hg hle hd => h _ _ ⟨Prod.ext rfl hd, hg, hle⟩,
    fun h n e ⟨hp, hg, hle⟩ => by subst hp; exact h e hg hle rfl⟩

/-- The next VALID slot of a segment from a number on is the lowest one (R140). -/
theorem Bank.nextValid_eq_some {k : Bank} (h : SlotMap.Wf k.slots) {g : SegmentNo} {first : Nat} {n : SlotNo}
    {e : Entry} :
    k.nextValid g first = some (n, e) ↔ k.slot n = .valid e ∧ n.val / 64 = g.val ∧ first ≤ n.val
      ∧ ∀ m d, m.val / 64 = g.val → first ≤ m.val → m.val < n.val → k.slot m ≠ .valid d := by
  rw [Bank.nextValid_eq, findSome?_lowest h.1]
  simp only [copiedFrom_eq_some, copiedFrom_eq_none]
  constructor
  · rintro ⟨_, hp, ⟨rfl, hg, hle⟩, hlow⟩
    refine ⟨(SlotMap.mem_valid_iff h).1 hp, hg, hle, fun m d hm hfirst hlt hd => ?_⟩
    exact hlow _ ((SlotMap.mem_valid_iff h).2 hd) hlt d hm hfirst rfl
  · rintro ⟨hn, hg, hle, hlow⟩
    refine ⟨_, (SlotMap.mem_valid_iff h).2 hn, ⟨rfl, hg, hle⟩, fun ⟨m, x⟩ hq hlt d hm hfirst hx => ?_⟩
    exact hlow m d hm hfirst hlt ((SlotMap.read_of_mem h hq).trans hx)

/-- There is no next slot to copy exactly where none is VALID from the number on (R140). -/
theorem Bank.nextValid_eq_none {k : Bank} (h : SlotMap.Wf k.slots) {g : SegmentNo} {first : Nat} :
    k.nextValid g first = none ↔
      ∀ m d, m.val / 64 = g.val → first ≤ m.val → k.slot m ≠ .valid d := by
  rw [Bank.nextValid_eq, List.findSome?_eq_none_iff]
  simp only [copiedFrom_eq_none]
  exact ⟨fun hnone m d hm hle hd => hnone _ ((SlotMap.mem_valid_iff h).2 hd) d hm hle rfl,
    fun hnone p hp d hm hle hd => hnone p.1 d hm hle ((SlotMap.read_of_mem h hp).trans hd)⟩

theorem Bank.nextToCopy_eq_some {k : Bank} (h : SlotMap.Wf k.slots) {g : SegmentNo} {first : Nat} {n : SlotNo}
    {e : Entry} :
    k.nextToCopy g first = some (n, e) ↔
      k.segments.get g = .normal ∧ k.slot n = .valid e ∧ n.val / 64 = g.val ∧ first ≤ n.val
        ∧ ∀ m d, m.val / 64 = g.val → first ≤ m.val → m.val < n.val → k.slot m ≠ .valid d := by
  rw [Bank.nextToCopy, Option.ite_none_right_eq_some, Bank.nextValid_eq_some h]

theorem Bank.nextToCopy_eq_none {k : Bank} (h : SlotMap.Wf k.slots) {g : SegmentNo} {first : Nat} :
    k.nextToCopy g first = none ↔ k.segments.get g ≠ .normal
      ∨ ∀ m d, m.val / 64 = g.val → first ≤ m.val → k.slot m ≠ .valid d := by
  rw [← Bank.nextValid_eq_none h, Bank.nextToCopy]
  split <;> simp_all

end Sys2Proof.Machine
end

section
/-! PROOFS. The Table Store's operations at their intake, each by the tests of its own past BUSY and FAULTED: the
staging buffer, PROGRAM STAGE, the erases, and the other operations (R127 to R144, R154, R155). -/

namespace Sys2Proof.Machine

/-! ### Completion (R120, R121, R146) -/

/-- A completion: the store IDLE with its result, any but OK with the latch set, and ALERT_N following. -/
theorem State.complete_eq (s : State) (r : LastResult) :
    s.complete r = { s with
      ts := { s.ts with
        op := none, lastResult := r, faultLatch := s.ts.faultLatch || decide (r ≠ LastResult.ok) }
      pins := { s.pins with
        alert := s.pins.powered
          && (!s.pins.resetN || !s.ts.mode.isRunning || s.ts.faultLatch || decide (r ≠ LastResult.ok)) } } := by
  simp only [State.complete, State.driveAlert, State.alertLevel, Bool.or_assoc]

/-- The completion of a PROGRAM STAGE is that of the store with its buffer empty (R132). -/
theorem State.completeStage_eq (s : State) (r : LastResult) :
    s.completeStage r = { s with ts := { s.ts with staging := .empty } }.complete r := rfl

/-- At the intake of a command, where the store is IDLE, a completion with any result but OK sets the latch and
asserts ALERT_N. -/
theorem State.complete_failed {s : State} (ho : s.ts.op = none) {r : LastResult} (hr : r ≠ .ok) :
    s.complete r = { s with
      ts := { s.ts with lastResult := r, faultLatch := true }
      pins := { s.pins with alert := s.pins.powered } } := by
  rw [State.complete_eq, ← ho]
  simp only [hr, ne_eq, not_false_eq_true, decide_true, Bool.or_true, Bool.and_true]

/-- At the intake of a command, where the store is IDLE and the latch clear, a completion with OK leaves ALERT_N to
the mode. -/
theorem State.complete_done {s : State} (ho : s.ts.op = none) (hf : s.ts.faultLatch = false) :
    s.complete .ok = { s with
      ts := { s.ts with lastResult := .ok }
      pins := { s.pins with alert := s.pins.powered && (!s.pins.resetN || !s.ts.mode.isRunning) } } := by
  rw [State.complete_ok, ← ho, hf, Bool.or_false]

/-- An operation accepted and completed at once with any result but OK (R120, R121, R146). -/
theorem State.accept_complete_failed {s : State} (ho : s.ts.op = none) (last : LastOp) {r : LastResult}
    (hr : r ≠ .ok) :
    (s.accept last).complete r = { s with
      ts := { s.ts with opNumber := s.ts.opNumber + 1, lastOp := last, lastResult := r, faultLatch := true }
      pins := { s.pins with alert := s.pins.powered } } := by
  rw [State.complete_failed (s := s.accept last) ho hr]
  rfl

/-- An operation accepted and completed at once with OK (R140, R142). -/
theorem State.accept_complete_done {s : State} (ho : s.ts.op = none) (hf : s.ts.faultLatch = false)
    (last : LastOp) :
    (s.accept last).complete .ok = { s with
      ts := { s.ts with opNumber := s.ts.opNumber + 1, lastOp := last, lastResult := .ok }
      pins := { s.pins with alert := s.pins.powered && (!s.pins.resetN || !s.ts.mode.isRunning) } } := by
  rw [State.complete_done (s := s.accept last) ho hf]
  rfl

/-- A PROGRAM STAGE accepted and completed at once with any result but OK empties its buffer (R131, R132). -/
theorem State.accept_completeStage_failed {s : State} (ho : s.ts.op = none) (last : LastOp) {r : LastResult}
    (hr : r ≠ .ok) :
    (s.accept last).completeStage r = { s with
      ts := { s.ts with
        opNumber := s.ts.opNumber + 1, lastOp := last, lastResult := r, faultLatch := true, staging := .empty }
      pins := { s.pins with alert := s.pins.powered } } :=
  State.accept_complete_failed (s := { s with ts := { s.ts with staging := .empty } }) ho last hr

/-! ### STAGE ENTRY and DISCARD STAGE (R128, R129, R178) -/

section Staging
variable {s : State} {n : SlotNo} {image : List Byte} {e : Entry}

theorem State.stageEntry_illegal (h : Entry.ofImage image = none) : s.stageEntry n image = .error .badArgument := by
  rw [State.stageEntry, h]

theorem State.stageEntry_busy (h : Entry.ofImage image = some e) (ho : s.ts.op.isSome = true) :
    s.stageEntry n image = .error .busy := by
  simp only [State.stageEntry, h, ho, if_true]

theorem State.stageEntry_mismatch (h : Entry.ofImage image = some e) (ho : s.ts.op = none)
    (hpage : s.ts.staging.stage n e = none) : s.stageEntry n image = .error .stageMismatch := by
  simp [State.stageEntry, h, ho, hpage]

theorem State.stageEntry_staged {b : Staging} (h : Entry.ofImage image = some e) (ho : s.ts.op = none)
    (hpage : s.ts.staging.stage n e = some b) :
    s.stageEntry n image = .ok { s with ts := { s.ts with staging := b } } := by
  simp [State.stageEntry, h, ho, hpage]

theorem State.discardStage_busy (ho : s.ts.op.isSome = true) : s.discardStage = .error .busy := if_pos ho

theorem State.discardStage_idle (ho : s.ts.op = none) :
    s.discardStage = .ok { s with ts := { s.ts with staging := .empty } } := by
  rw [State.discardStage, ho]
  rfl

end Staging

/-! ### PROGRAM STAGE (R130, R131) -/

/-- PROGRAM STAGE with the store IDLE, the latch clear and a page staged: the lock, then the blank test. -/
theorem State.programStage_eq {s : State} (ho : s.ts.op = none) (hf : s.ts.faultLatch = false) {p : PageNo}
    {entries : Vector (Option Entry) 8} (hs : s.ts.staging = .page p entries) :
    s.programStage =
      if s.locked s.standby (segmentOfPage p) then .error .locked
      else if (s.nv.bank s.standby).pageBlank p entries then
        .ok ((s.accept .programStage).programNext s.standby (nextStaged p entries 0))
      else .ok ((s.accept .programStage).completeStage .notBlank) := by
  simp only [State.programStage, State.storeTests_passed ho hf, hs]

/-- Settles O49: the tests of each command in their order, with the buffer as the case split. -/
theorem programStageAtIntake : Obligations.ProgramStageAtIntake := by
  refine ⟨fun s f n image => ⟨fun hillegal => ?illegal, fun e he => ⟨fun hbusy => ?busy, fun ho hs => ?first,
      fun p entries ho hs => ⟨?same, fun hother => ?other⟩⟩⟩,
    fun s f => ⟨fun hbusy => ?discardBusy, fun ho hs => ?discardEmpty, fun p entries ho hs => ?discard⟩,
    fun s ho hf => ⟨fun hs => ?empty, fun p entries hs => ⟨fun hl => ?locked, fun hl hfit => ?notBlank,
      fun i e hl hfit he hlow => ?starts⟩⟩⟩
  case illegal => rw [Command.run, State.stageEntry_illegal hillegal]; rfl
  case busy => rw [Command.run, State.stageEntry_busy he hbusy]; rfl
  case first => rw [Command.run, State.stageEntry_staged he ho (by rw [hs]; rfl)]; rfl
  case same =>
    rintro rfl
    rw [Command.run, State.stageEntry_staged he ho (by rw [hs]; exact if_pos rfl)]
    rfl
  case other => rw [Command.run, State.stageEntry_mismatch he ho (by rw [hs]; exact if_neg (Ne.symm hother))]; rfl
  case discardBusy => rw [Command.run, State.discardStage_busy hbusy]; rfl
  case discardEmpty => rw [Command.run, State.discardStage_idle ho, hs]; rfl
  case discard => rw [Command.run, State.discardStage_idle ho, hs]; rfl
  case empty => simp only [State.programStage, State.storeTests_passed ho hf, hs]
  case locked => rw [State.programStage_eq ho hf hs]; exact if_pos hl
  case notBlank =>
    have hblank : ¬ (s.nv.bank s.standby).pageBlank p entries = true := fun h => hfit (Bank.pageBlank_iff.1 h)
    have hunlocked : ¬ s.locked s.standby (segmentOfPage p) = true := Bool.eq_false_iff.1 hl
    rw [State.programStage_eq ho hf hs, if_neg hunlocked, if_neg hblank]
    exact congrArg Except.ok (State.accept_completeStage_failed ho _ (by decide))
  case starts =>
    have hblank : (s.nv.bank s.standby).pageBlank p entries = true := Bank.pageBlank_iff.2 hfit
    have hunlocked : ¬ s.locked s.standby (segmentOfPage p) = true := Bool.eq_false_iff.1 hl
    rw [State.programStage_eq ho hf hs, if_neg hunlocked, if_pos hblank, nextStaged_lowest he hlow]
    rfl

/-! ### The erases (R134, R135, R137) -/

theorem overrideOf_illegal {flag : Byte} (h : 2 ≤ flag.toNat) : overrideOf flag = none := by
  have h0 : flag ≠ 0x00#8 := by rintro rfl; exact absurd h (by decide)
  have h1 : flag ≠ 0x01#8 := by rintro rfl; exact absurd h (by decide)
  rw [overrideOf, if_neg h0, if_neg h1]

section Erases
variable {s : State} {flag : Byte} {override : Bool}

/-- ERASE SEGMENT with the store IDLE and the latch clear: the key switch, then the lock. -/
theorem State.eraseSegment_eq (ho : s.ts.op = none) (hf : s.ts.faultLatch = false)
    (hflag : overrideOf flag = some override) (n : SegmentNo) :
    s.eraseSegment n flag =
      if !s.permitted override then .error .notPermitted
      else if !override && s.locked s.standby n then .error .locked
      else .ok ((s.accept .eraseSegment).beginSegmentErase s.standby n
        (.eraseSegment s.standby n override)) := by
  simp only [State.eraseSegment, hflag, State.storeTests_passed ho hf]

/-- ERASE BANK with the store IDLE and the latch clear: the key switch alone. -/
theorem State.eraseBank_eq (ho : s.ts.op = none) (hf : s.ts.faultLatch = false)
    (hflag : overrideOf flag = some override) :
    s.eraseBank flag =
      if !s.permitted override then .error .notPermitted
      else .ok ((s.accept .eraseBank).setOp (some (.eraseBank s.standby override .header))) := by
  simp only [State.eraseBank, hflag, State.storeTests_passed ho hf]

end Erases

/-- Settles O50: the flag, the key switch and the lock in their order. -/
theorem erasesAtIntake : Obligations.ErasesAtIntake := by
  refine fun s n flag => ⟨fun hillegal => ?illegal, fun ho hf => ⟨?keyLow, ?locked, fun override hgiven => ?starts⟩⟩
  case illegal => constructor <;> simp only [State.eraseSegment, State.eraseBank, overrideOf_illegal hillegal]
  case keyLow =>
    rintro rfl hkey
    have hdenied : (!s.permitted true) = true := by simp [State.permitted, hkey]
    rw [State.eraseSegment_eq ho hf rfl, State.eraseBank_eq ho hf rfl, if_pos hdenied, if_pos hdenied]
    exact ⟨rfl, rfl⟩
  case locked =>
    rintro rfl hl
    rw [State.eraseSegment_eq ho hf rfl]
    exact if_pos hl
  case starts =>
    have hflag : overrideOf flag = some override := by
      rcases hgiven with ⟨rfl, rfl⟩ | ⟨rfl, rfl, -⟩ <;> rfl
    have hpermitted : ¬ (!s.permitted override) = true := by
      rcases hgiven with ⟨-, rfl⟩ | ⟨-, rfl, hkey⟩
      · simp [State.permitted]
      · simp [State.permitted, hkey]
    rw [State.eraseSegment_eq ho hf hflag, State.eraseBank_eq ho hf hflag, if_neg hpermitted, if_neg hpermitted]
    refine ⟨rfl, fun hunlocked => ?_⟩
    have hfree : ¬ (!override && s.locked s.standby n) = true := by
      rcases hunlocked with rfl | hl
      · simp
      · rw [State.locked, State.standby, hl, Bool.and_false]
        nofun
    rw [if_neg hfree]
    rfl

/-! ### The other operations (R133, R139, R140, R142, R144, R154, R155) -/

section Others
variable {s : State}

/-- PROGRAM HEADER with the store IDLE and the latch clear: the blank test. -/
theorem State.programHeader_eq (ho : s.ts.op = none) (hf : s.ts.faultLatch = false) {image : List Byte}
    {x : Header} (hx : Header.ofImage image = some x) :
    s.programHeader image =
      if (s.nv.bank s.standby).header = .blank then
        .ok (((s.accept .programHeader).mapBank s.standby fun k => k.setHeader .programming).setOp
          (some (.programHeader s.standby x)))
      else .ok ((s.accept .programHeader).complete .notBlank) := by
  simp only [State.programHeader, hx, State.storeTests_passed ho hf]

/-- COPY SEGMENT with the store IDLE, the latch clear and a bank in service: the lock, then the blank test. -/
theorem State.copySegment_eq (ho : s.ts.op = none) (hf : s.ts.faultLatch = false) {a : BankId}
    (ha : s.ts.mode.active = some a) (n : SegmentNo) :
    s.copySegment n =
      if s.locked s.standby n then .error .locked
      else if (s.nv.bank s.standby).segmentBlank n then
        .ok ((s.accept .copySegment).copyNext s.standby n ((s.nv.bank a).nextToCopy n 0))
      else .ok ((s.accept .copySegment).complete .notBlank) := by
  simp only [State.copySegment, State.storeTests_passed ho hf, ha]

/-- LOCK SEGMENT with the store IDLE and the latch clear: whether the segment is locked already. -/
theorem State.lockSegment_eq (ho : s.ts.op = none) (hf : s.ts.faultLatch = false) (b : BankId) (n : SegmentNo) :
    s.lockSegment b n =
      if s.locked b n then .ok ((s.accept .lockSegment).complete .ok)
      else .ok (((s.accept .lockSegment).mapBank b fun k => k.setLock n true).setOp
        (some (.lockSegment b n))) := State.storeTests_passed ho hf

/-- COMMIT with the store IDLE and the latch clear: the readiness test. -/
theorem State.commit_eq (ho : s.ts.op = none) (hf : s.ts.faultLatch = false) (w : Word) :
    s.commit w =
      if (s.nv.bank s.standby).ready then
        .ok ((s.accept .commit).setOp (some (.commit s.standby w .checking)))
      else .ok ((s.accept .commit).complete .bankNotReady) := State.storeTests_passed ho hf

end Others

/-- Settles O51: each operation by its own tests, and what the tests and searches of a bank say of its slots. -/
theorem otherOperationsAtIntake : Obligations.OtherOperationsAtIntake := by
  refine ⟨fun s ho hf => ?intake, fun s image hx => ?illegal, fun k h => ⟨Bank.ready_iff h, fun g =>
    ⟨Bank.segmentBlank_iff h g, fun first => ⟨fun n e => Bank.nextToCopy_eq_some h, Bank.nextToCopy_eq_none h⟩⟩⟩⟩
  case illegal => rw [State.programHeader, hx]
  refine ⟨fun image x hx => ⟨fun hheader => ?headerNotBlank, fun hheader => ?headerStarts⟩,
    fun n ha => ?noActive, fun n a ha => ⟨fun hl => ?copyLocked, fun hl hblank => ?copyNotBlank,
      fun hl hblank hnext => ?copyNothing, fun i e hl hblank hnext => ?copyStarts⟩,
    fun c n => ⟨fun hl => ?lockStarts, fun hl => ?lockedAlready⟩, ?check,
    fun w => ⟨fun hready => ?commitStarts, fun hready => ?notReady⟩⟩
  case headerNotBlank => 
    rw [State.programHeader_eq ho hf hx, State.standby, if_neg hheader]
    exact congrArg Except.ok (State.accept_complete_failed ho _ (by decide))
  case headerStarts => rw [State.programHeader_eq ho hf hx, State.standby, if_pos hheader]; rfl
  case noActive => simp only [State.copySegment, State.storeTests_passed ho hf, ha]
  case copyLocked => rw [State.copySegment_eq ho hf ha]; exact if_pos hl
  case copyNotBlank =>
    rw [State.copySegment_eq ho hf ha, State.locked, State.standby, hl, hblank]
    exact congrArg Except.ok (State.accept_complete_failed ho _ (by decide))
  case copyNothing =>
    rw [State.copySegment_eq ho hf ha, State.locked, State.standby, hl, hblank, hnext]
    exact congrArg Except.ok (State.accept_complete_done ho hf _)
  case copyStarts =>
    rw [State.copySegment_eq ho hf ha, State.locked, State.standby, hl, hblank, hnext]
    rfl
  case lockStarts => rw [State.lockSegment_eq ho hf, State.locked, hl]; rfl
  case lockedAlready =>
    rw [State.lockSegment_eq ho hf, State.locked, hl]
    exact congrArg Except.ok (State.accept_complete_done ho hf _)
  case check => exact State.storeTests_passed ho hf
  case commitStarts => rw [State.commit_eq ho hf, State.standby, hready]; rfl
  case notReady =>
    rw [State.commit_eq ho hf, State.standby, hready]
    exact congrArg Except.ok (State.accept_complete_failed ho _ (by decide))

end Sys2Proof.Machine
end

section
/-! PROOFS. The ends of the element writes and of the erases: what became of the element, and how the operation in
flight goes on (R125, R126, R131 to R133, R136 to R138, R140). -/

namespace Sys2Proof.Machine

/-! ### One bank changed twice -/

/-- The write of the next slot begins in the bank that the write before it ended in (R125). -/
theorem State.mapBank_beginSlotWrite (s : State) (b : BankId) (f : Bank → Bank) (n : SlotNo) (op : StoreOp) :
    (s.mapBank b f).beginSlotWrite b n op = { s with
      nv := s.nv.mapBank (fun k => (f k).setSlot n .programming) b
      ts := { s.ts with op := some op } } := by cases b <;> rfl

/-- The erase of the next segment begins in the bank that the erase before it ended in (R126). -/
theorem State.mapBank_beginSegmentErase (s : State) (b : BankId) (f : Bank → Bank) (n : SegmentNo) (op : StoreOp) :
    (s.mapBank b f).beginSegmentErase b n op = { s with
      nv := s.nv.mapBank (fun k => (f k).setCondition n .erasing) b
      ts := { s.ts with op := some op } } := by cases b <;> rfl

/-! ### Element writes -/

section ElementWrite
variable {s : State} {b : BankId} (image : List Byte)

theorem exec_elementWriteEnd_programStage {n : SlotNo} {e : Entry} (ho : s.ts.op = some (.programStage b n e)) :
    exec (.elementWriteEnd image) s = .next (if image = e.image then
        (s.mapBank b fun k => k.setSlot n (.valid e)).programNext b (s.ts.staging.next (n.val + 1))
      else (s.mapBank b fun k => k.setSlot n .torn).completeStage .verifyFail) := by
  simp only [exec, execElementWriteEnd, ho]

theorem exec_elementWriteEnd_programHeader {x : Header} (ho : s.ts.op = some (.programHeader b x)) :
    exec (.elementWriteEnd image) s = .next (if image = x.image then
        (s.mapBank b fun k => k.setHeader (.valid x)).complete .ok
      else (s.mapBank b fun k => k.setHeader .torn).complete .verifyFail) := by
  simp only [exec, execElementWriteEnd, ho]

theorem exec_elementWriteEnd_copySegment {g : SegmentNo} {n : SlotNo} {e : Entry}
    (ho : s.ts.op = some (.copySegment b g n e)) :
    exec (.elementWriteEnd image) s = .next (if image = e.image then
        (s.mapBank b fun k => k.setSlot n (.valid e)).copyNext b g
          ((s.nv.bank (otherBank b)).nextToCopy g (n.val + 1))
      else (s.mapBank b fun k => k.setSlot n .torn).complete .verifyFail) := by
  simp only [exec, execElementWriteEnd, ho]

end ElementWrite

/-- Settles O52: the image read back decides between VALID and TORN, and the search between going on and
completing. -/
theorem elementWriteEnds : Obligations.ElementWriteEnds := by
  refine ⟨fun p entries first => ?search, fun s image b => ⟨fun n e ho => ?programStage, fun x ho => ?programHeader,
    fun g n e ho => ?copySegment⟩⟩
  case search =>
    simp only [← pageOf_eq_iff]
    exact ⟨fun n e => nextStaged_eq_some, nextStaged_eq_none, rfl⟩
  case programStage =>
    rw [exec_elementWriteEnd_programStage image ho]
    refine ⟨fun hdiffer => ?_, fun hsame hnext => ?_, fun m d hsame hnext => ?_⟩
    · rw [if_neg hdiffer, State.completeStage_eq, State.complete_eq]; rfl
    · rw [if_pos hsame, hnext, State.programNext, State.completeStage_eq, State.complete_eq]; rfl
    · rw [if_pos hsame, hnext, State.programNext, State.mapBank_beginSlotWrite]
  case programHeader =>
    rw [exec_elementWriteEnd_programHeader image ho]
    refine ⟨fun hdiffer => ?_, fun hsame => ?_⟩
    · rw [if_neg hdiffer, State.complete_eq]; rfl
    · rw [if_pos hsame, State.complete_eq]; rfl
  case copySegment =>
    rw [exec_elementWriteEnd_copySegment image ho]
    refine ⟨fun hdiffer => ?_, fun hsame hnext => ?_, fun m d hsame hnext => ?_⟩
    · rw [if_neg hdiffer, State.complete_eq]; rfl
    · rw [if_pos hsame, hnext, State.copyNext, State.complete_eq]; rfl
    · rw [if_pos hsame, hnext, State.copyNext, State.mapBank_beginSlotWrite]

/-! ### Erases -/

/-- The locks of a bank after a segment erase: the segment's own is cleared under override alone (R126, R136). -/
theorem Bank.lock_segmentErased (k : Bank) (n m : SegmentNo) (override : Bool) :
    (k.segmentErased n override).locks.get m = if n = m ∧ override = true then false else k.locks.get m := by
  cases override with
  | false => simp [Bank.segmentErased]
  | true => simp [Bank.segmentErased, get_setAt]

/-- A segment that an ERASE BANK does not skip, from a number on: it is not locked, or override was given (R137,
R138). -/
def State.Takes (s : State) (b : BankId) (override : Bool) (first : Nat) (m : SegmentNo) : Prop :=
  first ≤ m.val ∧ (override = true ∨ s.locked b m = false)

/-- A stage that clears no lock, but under override, leaves the segments to take as they were. -/
theorem State.takes_mapBank {s : State} {b : BankId} {override : Bool} {f : Bank → Bank}
    (hlocks : override = false → ∀ m, (f (s.nv.bank b)).locks.get m = (s.nv.bank b).locks.get m) (first : Nat)
    (m : SegmentNo) : (s.mapBank b f).Takes b override first m ↔ s.Takes b override first m := by
  simp only [State.Takes, State.locked, State.mapBank_nv, Nonvolatile.bank_mapBank, if_true]
  cases override with
  | true => simp
  | false => rw [hlocks rfl]

/-- An ERASE BANK with no segment left to take completes (R137). -/
theorem State.mapBank_eraseNext_none {s : State} {b : BankId} {override : Bool} {first : Nat} {f : Bank → Bank}
    (hlocks : override = false → ∀ m, (f (s.nv.bank b)).locks.get m = (s.nv.bank b).locks.get m)
    (hnone : ∀ m, ¬ s.Takes b override first m) :
    (s.mapBank b f).eraseNext b override first = (s.mapBank b f).complete .ok :=
  State.eraseNext_none fun m hm => hnone m ((State.takes_mapBank hlocks first m).1 hm)

/-- An ERASE BANK goes on with the lowest segment it takes (R137). -/
theorem State.mapBank_eraseNext_some {s : State} {b : BankId} {override : Bool} {first : Nat} {f : Bank → Bank}
    (hlocks : override = false → ∀ m, (f (s.nv.bank b)).locks.get m = (s.nv.bank b).locks.get m) {m : SegmentNo}
    (hm : s.Takes b override first m) (hlow : ∀ j, j.val < m.val → ¬ s.Takes b override first j) :
    (s.mapBank b f).eraseNext b override first =
      (s.mapBank b f).beginSegmentErase b m (.eraseBank b override (.segment m)) :=
  State.eraseNext_some ((State.takes_mapBank hlocks first m).2 hm) fun j hlt hj =>
    hlow j hlt ((State.takes_mapBank hlocks first j).1 hj)

/-- Settles O53: the erased element, and the segments that an ERASE BANK has still to take. -/
theorem erasesEnd : Obligations.ErasesEnd := by
  refine fun s b override => ⟨fun n ho => ?segment, fun n ho => ?bankSegment, fun ho => ?bankHeader,
    fun k n m i => ⟨?slots, ?segments, ?locks, rfl⟩⟩
  case segment => simp only [exec, execSegmentEraseEnd, ho, State.complete_ok]; rfl
  case bankSegment =>
    have hexec : exec .segmentEraseEnd s = .next
        ((s.mapBank b fun k => k.segmentErased n override).eraseNext b override (n.val + 1)) := by
      simp only [exec, execSegmentEraseEnd, ho]
    have hlocks : override = false → ∀ m,
        ((s.nv.bank b).segmentErased n override).locks.get m = (s.nv.bank b).locks.get m := fun hplain m => by
      simp [Bank.lock_segmentErased, hplain]
    rw [hexec]
    refine ⟨fun hnone => ?_, fun m hm hlow => ?_⟩
    · rw [State.mapBank_eraseNext_none hlocks hnone, State.complete_ok]; rfl
    · rw [State.mapBank_eraseNext_some hlocks hm hlow]; rfl
  case bankHeader =>
    have hexec : exec .headerEraseEnd s = .next
        ((s.mapBank b fun k => k.setHeader .blank).eraseNext b override 0) := by
      simp only [exec, execHeaderEraseEnd, ho]
    rw [hexec]
    refine ⟨fun hnone => ?_, fun m hm hlow => ?_⟩
    · rw [State.mapBank_eraseNext_none (fun _ _ => rfl) hnone, State.complete_ok]; rfl
    · rw [State.mapBank_eraseNext_some (fun _ _ => rfl) hm hlow, State.mapBank_beginSegmentErase]
  case slots => simp only [Bank.slot_segmentErased, segmentOf_eq_iff]
  case segments => simp only [Bank.segment_segmentErased, eq_comm]
  case locks => simp only [Bank.lock_segmentErased, eq_comm]

end Sys2Proof.Machine
end

section
/-! PROOFS. The stages of a commit, from the check to the record in force (R156 to R158). -/

namespace Sys2Proof.Machine

section CommitStage
variable {s : State} {b : BankId} {w : Word}

theorem exec_commitCheckStageEnd (ho : s.ts.op = some (.commit b w .checking)) :
    exec .commitCheckStageEnd s = .next (if (s.nv.bank b).check = w then
        ((s.setLastCheck (s.nv.bank b).check).setCell s.ts.mode.targetCell .blank).setOp
          (some (.commit b w (.erased (s.nv.bank b).check)))
      else (s.setLastCheck (s.nv.bank b).check).complete .checkMismatch) := by
  simp only [exec, execCommitCheckStageEnd, ho]

theorem exec_pointerVerify_differs {r q : PointerRecord} (ho : s.ts.op = some (.commit b w (.writing r)))
    (hne : q ≠ r) : exec (.pointerVerify q) s = .next (s.complete .verifyFail) := by
  simp only [exec, execPointerVerify, ho, if_neg hne]

theorem exec_pointerVerify_equal {r : PointerRecord} {h : Header}
    (ho : s.ts.op = some (.commit b w (.writing r))) (hh : (s.nv.bank r.bank).header = .valid h) :
    exec (.pointerVerify r) s = .next ((s.switchTo r h).complete .ok) := by
  simp only [exec, execPointerVerify, ho, hh, if_true]

end CommitStage

/-- A completion with any result but OK sets the latch, and ALERT_N with it (R120, R146). -/
theorem State.complete_faulted (s : State) {result : LastResult} (hr : result ≠ .ok) :
    s.complete result = { s with
      ts := { s.ts with op := none, lastResult := result, faultLatch := true }
      pins := { s.pins with
        alert := s.pins.powered && (!s.pins.resetN || !s.ts.mode.isRunning || s.ts.faultLatch || true) } } := by
  rw [State.complete_eq, decide_eq_true hr, Bool.or_true s.ts.faultLatch]

/-- The switch of a commit leaves ALERT_N to the latch, the mode being RUNNING (R158, R165). -/
theorem State.switchTo_complete (s : State) (r : PointerRecord) (h : Header) :
    (s.switchTo r h).complete .ok = { s.switchTo r h with
      ts := { (s.switchTo r h).ts with op := none, lastResult := .ok }
      pins := { s.pins with alert := s.pins.powered && (!s.pins.resetN || s.ts.faultLatch) } } := by
  have hrunning : (s.switchTo r h).ts.mode.isRunning = true := rfl
  rw [State.complete_ok, hrunning, Bool.not_true, Bool.or_false]
  rfl

/-- Settles O55: the computed check decides between CHECK_MISMATCH and the erase of the target cell, and the
record read back between VERIFY_FAIL and the switch. -/
theorem commitStages : Obligations.CommitStages := by
  intro s b w x r q h target lamp
  have htarget : target = s.ts.mode.targetCell := rfl
  rw [htarget]
  refine ⟨fun ho hne => ?mismatch, fun ho heq => ?erase, fun ho => ?write, fun ho hne => ?differs,
    fun ho hh => ?equal⟩
  case mismatch =>
    rw [exec_commitCheckStageEnd ho, if_neg hne, State.complete_faulted _ (by decide)]
    rfl
  case erase =>
    rw [exec_commitCheckStageEnd ho, if_pos heq, heq]
    rfl
  case write =>
    simp only [exec, execPointerWriteStart, ho]
    rfl
  case differs => rw [exec_pointerVerify_differs ho hne, State.complete_faulted _ (by decide)]
  case equal =>
    rw [exec_pointerVerify_equal ho hh, State.switchTo_complete]
    rfl

end Sys2Proof.Machine
end

section
/-! PROOFS. ALERT_N follows the mode and the fault latch (R165): every command leaves the pin, power, RESET_N, the mode
and the latch as they were, or drives the pin to the level that the mode and the latch give it. -/

namespace Sys2Proof.Machine

/-- The part of the state that R165 speaks of: power, RESET_N and ALERT_N, the mode and the fault latch. -/
def State.alertView (s : State) : Bool × Bool × Bool × Mode × Bool :=
  (s.pins.powered, s.pins.resetN, s.pins.alert, s.ts.mode, s.ts.faultLatch)

theorem State.alertView_eq {s t : State} :
    t.alertView = s.alertView ↔ t.pins.powered = s.pins.powered ∧ t.pins.resetN = s.pins.resetN
      ∧ t.pins.alert = s.pins.alert ∧ t.ts.mode = s.ts.mode ∧ t.ts.faultLatch = s.ts.faultLatch := by
  simp only [State.alertView, Prod.mk.injEq]

theorem State.alertLevel_of_view {s t : State} (h : t.alertView = s.alertView) : t.alertLevel = s.alertLevel := by
  obtain ⟨hpowered, hreset, -, hmode, hlatch⟩ := State.alertView_eq.1 h
  simp only [State.alertLevel, hpowered, hreset, hmode, hlatch]

/-- The law of ALERT_N follows the view of the part that it speaks of. -/
theorem State.AlertLaw.of_view {s t : State} (hs : s.AlertLaw) (h : t.alertView = s.alertView) : t.AlertLaw := by
  obtain ⟨-, -, halert, -, -⟩ := State.alertView_eq.1 h
  calc t.pins.alert
    _ = s.pins.alert := halert
    _ = s.alertLevel := hs
    _ = t.alertLevel := (State.alertLevel_of_view h).symm

/-- What a step may do to what R165 speaks of: nothing, or ALERT_N is driven to its level. -/
inductive State.AlertStep (s t : State) : Prop
  | kept (h : t.alertView = s.alertView)
  | driven (h : t.AlertLaw)

/-- A state that ends by driving ALERT_N has it at its level, since the level does not depend on ALERT_N. -/
theorem State.driveAlert_alertLaw (s : State) : s.driveAlert.AlertLaw := rfl

section Steps
variable {s t u : State}

theorem State.AlertStep.refl (s : State) : s.AlertStep s := .kept rfl

theorem State.AlertStep.trans (h : s.AlertStep u) (h' : u.AlertStep t) : s.AlertStep t := by
  cases h' with
  | driven ht => exact .driven ht
  | kept ht =>
    cases h with
    | kept hu => exact .kept (ht.trans hu)
    | driven hu => exact .driven (hu.of_view ht)

theorem State.AlertStep.from_view (h : u.AlertStep t) (hu : u.alertView = s.alertView) : s.AlertStep t :=
  (State.AlertStep.kept hu).trans h

end Steps

/-! ### The lines -/

section Lines
variable (s : State)

theorem State.offerSynthesized_alertView (f : Frame) : (s.offerSynthesized f).alertView = s.alertView := by
  rcases s.offerSynthesized_cases f with ⟨-, h⟩ | ⟨-, h⟩ <;> rw [h] <;> rfl

theorem State.answer_alertView (c : Counter) (reply : Frame) : (s.answer c reply).alertView = s.alertView :=
  (s.count c).offerSynthesized_alertView reply

theorem State.offerManagement_alertView (f : Frame) : (s.offerManagement f).alertView = s.alertView := by
  rcases s.offerManagement_cases f with ⟨-, h⟩ | ⟨-, h⟩ <;> rw [h] <;> rfl

theorem State.conclude_alertView (q : Received) (a : Answer) : (s.conclude q a).alertView = s.alertView :=
  State.offerManagement_alertView _ _

theorem State.endRecord_alertView (t : Tag) (r : Record) (o : Origin) :
    (s.endRecord t r o).alertView = s.alertView := by
  rcases s.endRecord_cases t r o with ⟨-, h⟩ | ⟨-, -, -, h⟩ | ⟨-, -, h⟩ <;> rw [h] <;> rfl

theorem State.deliver_alertView (t : Tag) (r : Record) (reply : Frame) (o : Origin) :
    (s.deliver t r reply o).alertView = s.alertView := by
  rcases s.deliver_cases t r reply o with ⟨-, h⟩ | ⟨-, h⟩ <;> rw [h]
  · exact State.endRecord_alertView _ t r o
  · rfl

theorem State.stationRequest_alertView (f : Frame) : (s.stationRequest f).alertView = s.alertView := by
  unfold State.stationRequest
  split
  · rfl
  · exact s.answer_alertView _ _
  · rename_i v _
    split
    · rfl
    · rcases s.translate_cases v f with h | ⟨exc, payload, h⟩ | ⟨n, e, p, -, -, h⟩ <;> rw [h]
      · rfl
      · exact s.answer_alertView _ _
      · rcases s.forward_cases v n p f with ⟨-, h⟩ | ⟨-, -, h⟩ | ⟨g, rest, -, -, h⟩ <;> rw [h]
        · exact s.answer_alertView _ _
        · exact s.answer_alertView _ _
        · rfl

theorem State.takeRequest_alertView (f : Frame) : (s.takeRequest f).alertView = s.alertView := by
  unfold State.takeRequest
  split
  · rfl
  · rcases s.broadcastRequest_cases f with h | h | h | ⟨p, -, h⟩ <;> rw [h] <;> rfl
  · exact s.stationRequest_alertView f

theorem State.takeReply_alertView (f : Frame) : (s.takeReply f).alertView = s.alertView := by
  unfold State.takeReply
  split
  · rename_i hreply
    rcases s.matchReply_cases ⟨f.seq.toNat, hreply.2⟩ f with
      h | h | ⟨r, -, -, ⟨-, h⟩ | ⟨-, h⟩ | ⟨-, h⟩⟩ <;> rw [h]
    · rfl
    · rfl
    · exact s.deliver_alertView _ _ _ _
    · exact State.deliver_alertView _ _ _ _ _
    · exact s.deliver_alertView _ _ _ _
  · rfl

theorem State.setReceiver_alertView (r : Receiver) (line : Line) :
    (s.setReceiver r line).alertView = s.alertView := by
  cases line <;> rfl

theorem State.setAwaitsHigh_alertView (b : Bool) (line : Line) :
    (s.setAwaitsHigh b line).alertView = s.alertView := by
  cases line <;> rfl

/-- KEYSW is no part of what R165 speaks of. -/
theorem State.withKey_alertView (level : Bool) : (s.withKey level).alertView = s.alertView := rfl

theorem State.restartCutsShort_alertView : s.restartCutsShort.alertView = s.alertView := by
  rcases s.restartCutsShort_cases with ⟨-, h⟩ | ⟨_, -, h⟩ <;> rw [h] <;> rfl

theorem State.settleRestart_alertView : s.settleRestart.alertView = s.alertView := by
  unfold State.settleRestart
  split
  · exact s.restartCutsShort_alertView
  · rfl

theorem State.flush_alertView : s.flush.alertView = s.alertView := by
  simp only [State.alertView, State.flush_pins, State.flush_ts]

theorem State.tick_alertView : s.tick.alertView = s.alertView := by
  rcases s.tick_cases with ⟨-, h⟩ | ⟨-, h⟩ <;> rw [h] <;> rfl

end Lines

/-! ### The store at work -/

/-- A completion drives ALERT_N (R146). -/
theorem State.alertStep_complete (s u : State) (result : LastResult) : s.AlertStep (u.complete result) :=
  .driven (State.driveAlert_alertLaw _)

theorem State.alertStep_completeStage (s u : State) (result : LastResult) :
    s.AlertStep (u.completeStage result) := s.alertStep_complete _ result

section Stages
variable (s : State)

theorem State.alertStep_programNext (b : BankId) (next : Option (SlotNo × Entry)) :
    s.AlertStep (s.programNext b next) := by
  rcases s.programNext_cases b next with ⟨n, e, -, h⟩ | ⟨-, h⟩ <;> rw [h]
  · exact .kept rfl
  · exact s.alertStep_completeStage s _

theorem State.alertStep_copyNext (b : BankId) (g : SegmentNo) (next : Option (SlotNo × Entry)) :
    s.AlertStep (s.copyNext b g next) := by
  rcases s.copyNext_cases b g next with ⟨n, e, -, h⟩ | ⟨-, h⟩ <;> rw [h]
  · exact .kept rfl
  · exact s.alertStep_complete s _

theorem State.alertStep_eraseNext (b : BankId) (override : Bool) (from' : Nat) :
    s.AlertStep (s.eraseNext b override from') := by
  rcases s.eraseNext_cases b override from' with ⟨m, -, h⟩ | h <;> rw [h]
  · exact .kept rfl
  · exact s.alertStep_complete s _

theorem State.eraseProgress_alertView : s.eraseProgress.alertView = s.alertView := by
  simp only [State.alertView, State.eraseProgress_pins, State.eraseProgress_ts]

end Stages

/-- The end of a stage goes on to another, or completes the operation (R125 to R158). -/
theorem exec_storeStage_alertStep {c : Instr} {s t : State} (hc : isStageEvent c = true)
    (hstart : ¬ (c = .startUpScan ∨ c = .pointerSelection)) (h : exec c s = .next t) : s.AlertStep t := by
  cases c with
  | elementWriteEnd image =>
    change execElementWriteEnd image s = _ at h
    unfold execElementWriteEnd at h
    split at h
    · obtain rfl := Host.Outcome.next.inj h
      split
      · exact (State.alertStep_programNext _ _ _).from_view rfl
      · exact s.alertStep_completeStage _ _
    · obtain rfl := Host.Outcome.next.inj h
      split <;> exact s.alertStep_complete _ _
    · obtain rfl := Host.Outcome.next.inj h
      split
      · exact (State.alertStep_copyNext _ _ _ _).from_view rfl
      · exact s.alertStep_complete _ _
    · cases h
  | segmentEraseEnd =>
    change execSegmentEraseEnd s = _ at h
    unfold execSegmentEraseEnd at h
    split at h
    · obtain rfl := Host.Outcome.next.inj h
      exact s.alertStep_complete _ _
    · obtain rfl := Host.Outcome.next.inj h
      exact (State.alertStep_eraseNext _ _ _ _).from_view rfl
    · cases h
  | headerEraseEnd =>
    change execHeaderEraseEnd s = _ at h
    unfold execHeaderEraseEnd at h
    split at h
    · obtain rfl := Host.Outcome.next.inj h
      exact (State.alertStep_eraseNext _ _ _ _).from_view rfl
    · cases h
  | lockWriteEnd =>
    change execLockWriteEnd s = _ at h
    unfold execLockWriteEnd at h
    split at h
    · obtain rfl := Host.Outcome.next.inj h
      exact s.alertStep_complete _ _
    · cases h
  | checkBankComplete =>
    change execCheckBankComplete s = _ at h
    unfold execCheckBankComplete at h
    split at h
    · obtain rfl := Host.Outcome.next.inj h
      exact s.alertStep_complete _ _
    · cases h
  | commitCheckStageEnd =>
    change execCommitCheckStageEnd s = _ at h
    unfold execCommitCheckStageEnd at h
    split at h
    · obtain rfl := Host.Outcome.next.inj h
      split
      · exact .kept rfl
      · exact s.alertStep_complete _ _
    · cases h
  | pointerWriteStart =>
    change execPointerWriteStart s = _ at h
    unfold execPointerWriteStart at h
    split at h
    · obtain rfl := Host.Outcome.next.inj h
      exact .kept rfl
    · cases h
  | pointerVerify q =>
    change execPointerVerify q s = _ at h
    unfold execPointerVerify at h
    split at h
    · split at h
      · split at h
        · obtain rfl := Host.Outcome.next.inj h
          exact s.alertStep_complete _ _
        · cases h
      · obtain rfl := Host.Outcome.next.inj h
        exact s.alertStep_complete _ _
    · cases h
  | startUpScan | pointerSelection => simp at hstart
  | _ => cases hc

/-! ### Start-up, power and RESET_N -/

/-- Selection drives ALERT_N, whether it goes on or STARTING ends (R163 to R165). -/
theorem State.select_alertLaw (s : State) (cells : List CellId) : (s.select cells).AlertLaw := by
  rcases s.select_cases cells with ⟨u, -, -, -, -, h⟩ | ⟨u, _, _, _, _, -, -, -, -, -, -, -, h⟩ <;> rw [h]
  · exact State.driveAlert_alertLaw _
  · exact State.driveAlert_alertLaw _

theorem exec_startUp_alertLaw {c : Instr} {s t : State} (hc : c = .startUpScan ∨ c = .pointerSelection)
    (h : exec c s = .next t) : t.AlertLaw := by
  rcases hc with rfl | rfl
  · change execStartUpScan s = _ at h
    unfold execStartUpScan at h
    split at h
    · obtain rfl := Host.Outcome.next.inj h
      exact s.scan.select_alertLaw _
    · cases h
  · change execPointerSelection s = _ at h
    unfold execPointerSelection at h
    split at h
    · split at h
      · obtain rfl := Host.Outcome.next.inj h
        exact State.driveAlert_alertLaw _
      · obtain rfl := Host.Outcome.next.inj h
        exact State.select_alertLaw _ _
    · cases h

/-- Power and RESET_N drive ALERT_N (R160, R161, R165). -/
theorem exec_powerEvent_alertLaw {c : Instr} {s t : State} (hc : isPowerEvent c = true)
    (h : exec c s = .next t) : t.AlertLaw := by
  cases c with
  | powerOn rate madr =>
    change execPowerOn rate madr s = _ at h
    unfold execPowerOn at h
    split at h
    · cases h
    · obtain rfl := Host.Outcome.next.inj h
      exact State.driveAlert_alertLaw _
  | powerFail =>
    change execPowerFail s = _ at h
    unfold execPowerFail at h
    split at h
    · obtain rfl := Host.Outcome.next.inj h
      exact State.driveAlert_alertLaw _
    · cases h
  | resetNFall =>
    change execResetNFall s = _ at h
    unfold execResetNFall at h
    split at h
    · obtain rfl := Host.Outcome.next.inj h
      exact State.driveAlert_alertLaw _
    · cases h
  | resetNRelease rate madr =>
    change execResetNRelease rate madr s = _ at h
    unfold execResetNRelease at h
    split at h
    · cases h
    · obtain rfl := Host.Outcome.next.inj h
      exact State.driveAlert_alertLaw _
  | _ => cases hc

/-! ### The management commands -/

/-- A management command changes the latch only where it drives ALERT_N: as it clears the latch, or as an operation
completes at once (R121, R146, R147). -/
theorem Command.run_alertStep (f : Frame) (s : State) (c : Command) : s.AlertStep (c.run f s).2 := by
  have reply : ∀ {payload : State → List Byte} {x : Except Declined State},
      (∀ t, x = .ok t → s.AlertStep t) → s.AlertStep (s.storeReply payload x).2 := by
    intro payload x hx
    rcases s.storeReply_cases payload x with ⟨t, ht, h⟩ | ⟨d, -, h⟩ <;> rw [h]
    · exact hx t ht
    · exact .refl s
  cases c with
  | readStatus | readCounters | readTracker | readSegments => exact .refl s
  | readAndClearCounters => exact .kept rfl
  | flushTracker => exact .kept s.flush_alertView
  | readEntry | readHeader => exact .kept s.eraseProgress_alertView
  | restart =>
    simp only [Command.run, State.requestRestart]
    split
    · exact .refl s
    · exact .kept rfl
  | stageEntry n image =>
    refine reply fun t ht => ?_
    obtain ⟨e, b, -, -, -, rfl⟩ := State.stageEntry_ok ht
    exact .kept rfl
  | discardStage =>
    refine reply fun t ht => ?_
    obtain ⟨-, rfl⟩ := State.discardStage_ok ht
    exact .kept rfl
  | clearFault =>
    refine reply fun t ht => ?_
    obtain ⟨-, rfl⟩ := State.clearFault_ok ht
    exact .driven (State.driveAlert_alertLaw _)
  | programStage =>
    refine reply fun t ht => ?_
    obtain ⟨p, entries, -, -, -, -, ⟨-, rfl⟩ | ⟨-, rfl⟩⟩ := State.programStage_ok ht
    · exact (State.alertStep_programNext _ _ _).from_view rfl
    · exact s.alertStep_completeStage _ _
  | programHeader image =>
    refine reply fun t ht => ?_
    obtain ⟨x, -, -, -, ⟨-, rfl⟩ | ⟨-, rfl⟩⟩ := State.programHeader_ok ht
    · exact .kept rfl
    · exact s.alertStep_complete _ _
  | eraseSegment n flag =>
    refine reply fun t ht => ?_
    obtain ⟨override, -, -, -, -, -, rfl⟩ := State.eraseSegment_ok ht
    exact .kept rfl
  | eraseBank flag =>
    refine reply fun t ht => ?_
    obtain ⟨override, -, -, -, -, rfl⟩ := State.eraseBank_ok ht
    exact .kept rfl
  | copySegment n =>
    refine reply fun t ht => ?_
    obtain ⟨a, -, -, -, -, ⟨-, rfl⟩ | ⟨-, rfl⟩⟩ := State.copySegment_ok ht
    · exact (State.alertStep_copyNext _ _ _ _).from_view rfl
    · exact s.alertStep_complete _ _
  | lockSegment b n =>
    refine reply fun t ht => ?_
    obtain ⟨-, -, ⟨-, rfl⟩ | ⟨-, rfl⟩⟩ := State.lockSegment_ok ht
    · exact s.alertStep_complete _ _
    · exact .kept rfl
  | checkBank =>
    refine reply fun t ht => ?_
    obtain ⟨-, -, rfl⟩ := State.checkBank_ok ht
    exact .kept rfl
  | commit w =>
    refine reply fun t ht => ?_
    obtain ⟨-, -, ⟨-, rfl⟩ | ⟨-, rfl⟩⟩ := State.commit_ok ht
    · exact .kept rfl
    · exact s.alertStep_complete _ _

section Management
variable (s : State)

theorem State.execute_alertStep (q : Received) : s.AlertStep (s.execute q) := by
  unfold State.execute
  split
  · exact .kept (s.conclude_alertView q _)
  · exact (Command.run_alertStep q.frame s _).trans (.kept (State.conclude_alertView _ q _))

theorem State.takeManagement_alertStep (q : Received) : s.AlertStep (s.takeManagement q) := by
  unfold State.takeManagement
  split
  · exact .refl s
  · exact .refl s
  · split
    · exact .kept rfl
    · unfold State.replayOrExecute
      split
      · split
        · exact .kept (s.offerManagement_alertView _)
        · exact s.execute_alertStep q
      · exact s.execute_alertStep q

theorem State.handOn_alertStep (q : Received) (line : Line) : s.AlertStep (s.handOn q line) := by
  cases line with
  | downline => exact .kept (s.takeReply_alertView q.frame)
  | upline =>
    change s.AlertStep (s.handOnUpline q)
    rcases s.handOnUpline_cases q with ⟨-, -, -, h⟩ | ⟨-, h⟩ <;> rw [h]
    · exact s.takeManagement_alertStep q
    · exact .kept (s.takeRequest_alertView q.frame)

/-- An event at a receiver reaches ALERT_N through the good frame that it hands on, if any. -/
theorem State.receive_alertStep (line : Line) (x : Receiver × Arrival) : s.AlertStep (s.receive line x) := by
  have hreceiver : s.AlertStep (s.setReceiver x.1 line) := .kept (s.setReceiver_alertView x.1 line)
  rcases s.receive_cases line x with ⟨-, h⟩ | ⟨-, h⟩ | ⟨-, h⟩ | ⟨q, -, h⟩ <;> rw [h]
  · exact hreceiver
  · exact hreceiver.trans (.kept rfl)
  · exact hreceiver.trans (.kept rfl)
  · exact (State.handOn_alertStep _ q line).from_view (s.setReceiver_alertView x.1 line)

end Management

/-! ### The commands of the lines and the timers -/

section Commands
variable {s t : State}

theorem execCharacter_alertStep {fall : Fall} {byte : Byte} {lead keysw : Bool}
    (h : execCharacter fall byte lead keysw s = .next t) : s.AlertStep t := by
  obtain rfl := Host.Outcome.next.inj h
  have key : s.AlertStep ((s.withKey keysw).setAwaitsHigh false fall.line) :=
    .kept ((s.withKey keysw).setAwaitsHigh_alertView false fall.line)
  split
  · simp only
    split
    · exact key.trans (State.receive_alertStep _ _ _)
    · exact key
  · exact .kept (s.withKey_alertView keysw)

theorem execCharacterError_alertStep {fall : Fall} (h : execCharacterError fall s = .next t) :
    s.AlertStep t := by
  obtain rfl := Host.Outcome.next.inj h
  have waits : s.AlertStep (s.setAwaitsHigh true fall.line) := .kept (s.setAwaitsHigh_alertView true fall.line)
  split
  · simp only
    split
    · exact waits.trans (State.receive_alertStep _ _ _)
    · exact waits
  · exact .refl s

theorem execGapTimerExpiry_alertStep {line : Line} (h : execGapTimerExpiry line s = .next t) :
    s.AlertStep t := by
  unfold execGapTimerExpiry at h
  split at h
  · obtain rfl := Host.Outcome.next.inj h
    exact s.receive_alertStep line _
  · cases h

theorem execStartBit_alertView {fall : Fall} (h : execStartBit fall s = .next t) :
    t.alertView = s.alertView := by
  obtain rfl := Host.Outcome.next.inj h
  split
  · rw [State.setReceiver_alertView, State.setAwaitsHigh_alertView]
  · rfl

theorem State.arbitrate_alertView (h : s.arbitrate = .next t) : t.alertView = s.alertView := by
  rcases State.arbitrate_next h with ⟨_, -, rfl⟩ | ⟨-, -, rfl⟩ | ⟨g, _, r, _, o, -, -, -, -, rfl⟩
  · rfl
  · rfl
  · exact State.endRecord_alertView _ g r o

theorem execUtTake_alertView (h : execUtTake s = .next t) : t.alertView = s.alertView := by
  unfold execUtTake at h
  split at h
  · cases h
  split at h
  · obtain rfl := Host.Outcome.next.inj h
    exact s.settleRestart_alertView
  · unfold settled at h
    split at h
    · rename_i u hu
      obtain rfl := Host.Outcome.next.inj h
      rw [u.settleRestart_alertView, State.arbitrate_alertView hu]
      rfl
    · rename_i hno
      exact absurd h (hno t)

theorem execUplineFrameSent_alertView (h : execUplineFrameSent s = .next t) : t.alertView = s.alertView := by
  unfold execUplineFrameSent at h
  split at h
  · cases h
  · obtain rfl := Host.Outcome.next.inj h
    split
    · rcases s.restartReported_cases with ⟨-, h⟩ | ⟨-, -, h⟩ <;> rw [h] <;> rfl
    · rfl

theorem execDtTake_alertView (h : execDtTake s = .next t) : t.alertView = s.alertView := by
  unfold execDtTake at h
  split at h
  · cases h
  split at h
  · obtain rfl := Host.Outcome.next.inj h
    rfl
  · obtain ⟨r, -, rfl⟩ := State.sendTracked_next h
    rfl
  · obtain rfl := Host.Outcome.next.inj h
    rfl

theorem execDownlineFrameSent_alertView (h : execDownlineFrameSent s = .next t) :
    t.alertView = s.alertView := by
  unfold execDownlineFrameSent at h
  split at h
  · cases h
  · rename_i d _
    obtain rfl := Host.Outcome.next.inj h
    cases d.current <;> rfl

theorem execReplyTimerExpiry_alertView {g : Tag} (h : execReplyTimerExpiry g s = .next t) :
    t.alertView = s.alertView := by
  unfold execReplyTimerExpiry at h
  split at h
  · split at h
    · obtain rfl := Host.Outcome.next.inj h
      split
      · rfl
      · exact (s.count .noReply).deliver_alertView _ _ _ _
    · cases h
  · cases h

theorem execQuarantineExpiry_alertView {g : Tag} (h : execQuarantineExpiry g s = .next t) :
    t.alertView = s.alertView := by
  unfold execQuarantineExpiry at h
  split at h
  · obtain rfl := Host.Outcome.next.inj h
    rfl
  · cases h

theorem execQuietPeriodExpiry_alertView (h : execQuietPeriodExpiry s = .next t) :
    t.alertView = s.alertView := by
  unfold execQuietPeriodExpiry at h
  split at h
  · obtain rfl := Host.Outcome.next.inj h
    rfl
  · cases h

/-! ### Every step -/

/-- Every command leaves what R165 speaks of as it was, or drives ALERT_N to its level. -/
theorem exec_alertStep {c : Instr} (h : exec c s = .next t) : s.AlertStep t := by
  cases hp : isPowerEvent c with
  | true => exact .driven (exec_powerEvent_alertLaw hp h)
  | false =>
    cases hc : isStageEvent c with
    | true =>
      by_cases hstart : c = .startUpScan ∨ c = .pointerSelection
      · exact .driven (exec_startUp_alertLaw hstart h)
      · exact exec_storeStage_alertStep hc hstart h
    | false =>
      cases c with
      | character fall byte lead keysw => exact execCharacter_alertStep h
      | characterError fall => exact execCharacterError_alertStep h
      | gapTimerExpiry line => exact execGapTimerExpiry_alertStep h
      | utTake => exact .kept (execUtTake_alertView h)
      | uplineFrameSent => exact .kept (execUplineFrameSent_alertView h)
      | dtTake => exact .kept (execDtTake_alertView h)
      | downlineFrameSent => exact .kept (execDownlineFrameSent_alertView h)
      | replyTimerExpiry g => exact .kept (execReplyTimerExpiry_alertView h)
      | quarantineExpiry g => exact .kept (execQuarantineExpiry_alertView h)
      | quietPeriodExpiry => exact .kept (execQuietPeriodExpiry_alertView h)
      | startBit fall => exact .kept (execStartBit_alertView h)
      | powerOn | powerFail | resetNFall | resetNRelease => cases hp
      | _ => cases hc

theorem step_alertStep (h : step s = .next t) : s.AlertStep t := by
  unfold step at h
  split at h
  · obtain rfl := Host.Outcome.next.inj h
    exact .kept s.tick_alertView
  · exact (exec_alertStep h).from_view rfl

end Commands

/-! ### The statement -/

theorem Mode.isRunning_eq_false {m : Mode} : m.isRunning = false ↔ ∀ v, m ≠ .running v := by
  cases m <;> simp [Mode.isRunning]

/-- The level of ALERT_N of a powered part, in the terms of R165. -/
theorem State.alertLevel_iff {s : State} (hp : s.pins.powered = true) : s.alertLevel = true ↔
    s.pins.resetN = false ∨ (∀ v, s.ts.mode ≠ .running v) ∨ s.ts.faultLatch = true := by
  simp only [State.alertLevel, hp, Bool.true_and, Bool.or_eq_true, Bool.not_eq_true', Mode.isRunning_eq_false,
    or_assoc]

/-- Of a powered part, R165 says that ALERT_N is at its level. -/
theorem State.alertLaw_iff {s : State} (hp : s.pins.powered = true) : s.AlertLaw ↔ (s.pins.alert = true ↔
    s.pins.resetN = false ∨ (∀ v, s.ts.mode ≠ .running v) ∨ s.ts.faultLatch = true) := by
  rw [State.AlertLaw, Bool.eq_iff_iff, State.alertLevel_iff hp]

/-- Settles O14: a step leaves what R165 speaks of as it was, power included, or drives ALERT_N to its level. -/
theorem alertFollowsModeAndLatch : Obligations.AlertFollowsModeAndLatch := by
  refine ⟨fun hp => (State.alertLaw_iff hp).1 lawsHoldAfterReset.alert, fun s t hs h hp => ?_⟩
  rw [← State.alertLaw_iff hp]
  cases step_alertStep h with
  | driven ht => exact ht
  | kept ht =>
    obtain ⟨hpowered, -⟩ := State.alertView_eq.1 ht
    have hs' : s.AlertLaw := (State.alertLaw_iff (hpowered ▸ hp)).2 (hs (hpowered ▸ hp))
    exact hs'.of_view ht

end Sys2Proof.Machine
end

section
/-! PROOFS. The Engine's own tests of a management request: the codes that the table of commands lists, the length of
each command's payload, and the arguments in and out of their ranges (R171, R172). A counter's increment (R186). -/

namespace Sys2Proof.Machine

/-! ### The table of commands -/

/-- The function codes that the table of commands leaves out (R172). -/
theorem commandLength_eq_none_iff (fn : FunctionCode) :
    commandLength fn = none ↔ fn.toNat = 0x00 ∨ (0x08 ≤ fn.toNat ∧ fn.toNat ≤ 0x0F)
      ∨ (0x1B ≤ fn.toNat ∧ fn.toNat ≤ 0x1F) ∨ 0x22 ≤ fn.toNat := by
  unfold commandLength
  split
  case h_21 =>
    refine iff_of_true rfl ?_
    simp only [imp_false] at *
    omega
  all_goals exact iff_of_false nofun (by omega)

theorem Command.parse_unlisted {fn : FunctionCode} (h : commandLength fn = none) (payload : List Byte) :
    Command.parse fn payload = .error .unknownCommand := by
  rw [commandLength_eq_none_iff] at h
  unfold Command.parse
  split
  case h_21 => rfl
  all_goals omega

theorem noPayload_of_length_ne_zero {payload : List Byte} (h : payload.length ≠ 0) (c : Command) :
    noPayload c payload = .error .badArgument :=
  if_neg fun hnil => h (congrArg List.length hnil)

theorem Command.parse_otherLength {fn : FunctionCode} {n : Nat} (h : commandLength fn = some n) {payload : List Byte}
    (hlength : payload.length ≠ n) : Command.parse fn payload = .error .badArgument := by
  have hlisted : ¬ commandLength fn = none := by rw [h]; nofun
  rw [commandLength_eq_none_iff] at hlisted
  unfold Command.parse
  split
  case h_21 =>
    simp only [imp_false] at *
    omega
  all_goals
    rename_i hfn
    simp only [commandLength, hfn, Option.some.injEq] at h
    subst h
  -- the commands without payload, then STAGE ENTRY and PROGRAM HEADER with their images, then those of 1 to 3 characters
  case h_1 | h_2 | h_3 | h_9 | h_10 | h_16 | h_18 | h_19 | h_20 => exact noPayload_of_length_ne_zero hlength _
  case h_8 =>
    split
    · exact if_neg fun himage => hlength (by simp [himage])
    · rfl
  case h_11 => exact if_neg hlength
  all_goals
    split
    · exact absurd rfl hlength
    · rfl

/-! ### Arguments out of their ranges -/

theorem bankArg_eq_none {b : Byte} (h : 2 ≤ b.toNat) : bankArg b = none := by
  have h0 : b ≠ 0x00#8 := by rintro rfl; exact absurd h (by decide)
  have h1 : b ≠ 0x01#8 := by rintro rfl; exact absurd h (by decide)
  rw [bankArg, if_neg h0, if_neg h1]

theorem slotArg_eq_none {hi lo : Byte} (h : 512 ≤ (wordOf hi lo).toNat) : slotArg hi lo = none :=
  dif_neg (Nat.not_lt.2 h)

theorem segmentArg_eq_none {b : Byte} (h : 8 ≤ b.toNat) : segmentArg b = none := dif_neg (Nat.not_lt.2 h)

theorem tagArg_eq_none {b : Byte} (h : 32 ≤ b.toNat) : tagArg b = none := dif_neg (Nat.not_lt.2 h)

/-! ### Arguments in range -/

theorem segmentArg_ofNat (g : SegmentNo) : segmentArg (BitVec.ofNat 8 g.val) = some g := by
  have hval : (BitVec.ofNat 8 g.val).toNat = g.val := by rw [BitVec.toNat_ofNat]; omega
  rw [segmentArg, dif_pos (hval.trans_lt g.isLt)]
  exact congrArg some (Fin.ext hval)

theorem wordOf_twoCharacters (w : Word) :
    wordOf (BitVec.ofNat 8 (w.toNat / 256)) (BitVec.ofNat 8 (w.toNat % 256)) = w := by
  apply BitVec.eq_of_toNat_eq
  rw [wordOf_toNat, BitVec.toNat_ofNat, BitVec.toNat_ofNat]
  omega

/-! ### What each command makes of its characters -/

/-- READ ENTRY, of a bank and a slot: the bank is tested before the slot. -/
theorem Command.parse_readEntry_eq (b hi lo : Byte) : Command.parse 0x04#6 [b, hi, lo]
    = (bankArg b).elim (.error .badArgument) fun bank => inRange (slotArg hi lo) (.readEntry bank) := by
  change (match bankArg b with
    | some bank => inRange (slotArg hi lo) (.readEntry bank)
    | none => .error .badArgument) = _
  cases bankArg b <;> rfl

/-- LOCK SEGMENT, of a bank and a segment: the bank is tested before the segment. -/
theorem Command.parse_lockSegment_eq (b n : Byte) : Command.parse 0x17#6 [b, n]
    = (bankArg b).elim (.error .badArgument) fun bank => inRange (segmentArg n) (.lockSegment bank) := by
  change (match bankArg b with
    | some bank => inRange (segmentArg n) (.lockSegment bank)
    | none => .error .badArgument) = _
  cases bankArg b <;> rfl

theorem Command.parse_readHeader_eq (b : Byte) :
    Command.parse 0x05#6 [b] = inRange (bankArg b) .readHeader := rfl

theorem Command.parse_readTracker_eq (t : Byte) :
    Command.parse 0x06#6 [t] = inRange (tagArg t) .readTracker := rfl

theorem Command.parse_readSegments_eq (b : Byte) :
    Command.parse 0x07#6 [b] = inRange (bankArg b) .readSegments := rfl

theorem Command.parse_stageEntry_eq (hi lo : Byte) {image : List Byte} (h : image.length = 20) :
    Command.parse 0x10#6 (hi :: lo :: image) = inRange (slotArg hi lo) (.stageEntry · image) := if_pos h

theorem Command.parse_programHeader_eq {image : List Byte} (h : image.length = 8) :
    Command.parse 0x13#6 image = .ok (.programHeader image) := if_pos h

theorem Command.parse_eraseSegment_eq (n flag : Byte) :
    Command.parse 0x14#6 [n, flag] = inRange (segmentArg n) (.eraseSegment · flag) := rfl

theorem Command.parse_copySegment_eq (n : Byte) :
    Command.parse 0x16#6 [n] = inRange (segmentArg n) .copySegment := rfl

theorem Command.parse_commit_eq (hi lo : Byte) : Command.parse 0x19#6 [hi, lo] = .ok (.commit (wordOf hi lo)) := rfl

/-! ### A bank, slot, segment or tag out of its range is refused -/

theorem Command.parse_badBank {b : Byte} (h : 2 ≤ b.toNat) (x y : Byte) :
    Command.parse 0x04#6 [b, x, y] = .error .badArgument ∧ Command.parse 0x05#6 [b] = .error .badArgument
      ∧ Command.parse 0x07#6 [b] = .error .badArgument ∧ Command.parse 0x17#6 [b, x] = .error .badArgument := by
  rw [parse_readEntry_eq, parse_readHeader_eq, parse_readSegments_eq, parse_lockSegment_eq, bankArg_eq_none h]
  exact ⟨rfl, rfl, rfl, rfl⟩

theorem Command.parse_badSlot {hi lo : Byte} (h : 512 ≤ (wordOf hi lo).toNat) (b : Byte) :
    Command.parse 0x04#6 [b, hi, lo] = .error .badArgument
      ∧ ∀ image, image.length = 20 → Command.parse 0x10#6 (hi :: lo :: image) = .error .badArgument := by
  refine ⟨?entry, fun image himage => ?stage⟩
  case entry =>
    rw [parse_readEntry_eq, slotArg_eq_none h]
    cases bankArg b <;> rfl
  case stage =>
    rw [parse_stageEntry_eq hi lo himage, slotArg_eq_none h]
    rfl

theorem Command.parse_badSegment {n : Byte} (h : 8 ≤ n.toNat) (b flag : Byte) :
    Command.parse 0x14#6 [n, flag] = .error .badArgument ∧ Command.parse 0x16#6 [n] = .error .badArgument
      ∧ Command.parse 0x17#6 [b, n] = .error .badArgument := by
  rw [parse_eraseSegment_eq, parse_copySegment_eq, parse_lockSegment_eq, segmentArg_eq_none h]
  refine ⟨rfl, rfl, ?lock⟩
  cases bankArg b <;> rfl

theorem Command.parse_badTag {t : Byte} (h : 32 ≤ t.toNat) : Command.parse 0x06#6 [t] = .error .badArgument := by
  rw [parse_readTracker_eq, tagArg_eq_none h]
  rfl

/-! ### Arguments in range reach the command -/

theorem Command.parse_stageEntry (n : SlotNo) {image : List Byte} (h : image.length = 20) :
    Command.parse 0x10#6 (BitVec.ofNat 8 (n.val / 256) :: BitVec.ofNat 8 (n.val % 256) :: image)
      = .ok (.stageEntry n image) := by
  rw [parse_stageEntry_eq _ _ h, slotArg_twoCharacters]
  rfl

theorem Command.parse_eraseSegment (g : SegmentNo) (flag : Byte) :
    Command.parse 0x14#6 [BitVec.ofNat 8 g.val, flag] = .ok (.eraseSegment g flag) := by
  rw [parse_eraseSegment_eq, segmentArg_ofNat]
  rfl

theorem Command.parse_copySegment (g : SegmentNo) :
    Command.parse 0x16#6 [BitVec.ofNat 8 g.val] = .ok (.copySegment g) := by
  rw [parse_copySegment_eq, segmentArg_ofNat]
  rfl

theorem Command.parse_lockSegment (b : BankId) (g : SegmentNo) :
    Command.parse 0x17#6 [bankCode b, BitVec.ofNat 8 g.val] = .ok (.lockSegment b g) := by
  rw [parse_lockSegment_eq, bankArg_bankCode, segmentArg_ofNat]
  rfl

theorem Command.parse_commit (w : Word) :
    Command.parse 0x19#6 [BitVec.ofNat 8 (w.toNat / 256), BitVec.ofNat 8 (w.toNat % 256)] = .ok (.commit w) := by
  rw [parse_commit_eq, wordOf_twoCharacters]

/-! ### The statement -/

/-- Settles O58: the table's codes and lengths, each argument tested by its own lemma, and the command that
arguments in range spell. -/
theorem managementRefusals : Obligations.ManagementRefusals := by
  refine ⟨fun fn payload => ⟨?unlisted, ?length, commandLength_eq_none_iff fn, fun a b c =>
    ⟨?bank, ?slot, ?segment, ?tag⟩⟩, fun b n g t w flag image => ?commands, rfl⟩
  case unlisted => exact fun h => Command.parse_unlisted h payload
  case length => exact fun n h hlength => Command.parse_otherLength h hlength
  case bank => exact fun h => Command.parse_badBank h b c
  case slot => exact fun h => Command.parse_badSlot h a
  case segment => exact fun h => Command.parse_badSegment h a a
  case tag => exact Command.parse_badTag
  case commands =>
    intro bank twoBytes segment
    have hbank : bank = bankCode b := by cases b <;> rfl
    rw [hbank]
    exact ⟨rfl, rfl, rfl, Command.parse_readEntry b n, Command.parse_readHeader b, Command.parse_readTracker t,
      Command.parse_readSegments b, Command.parse_stageEntry n, rfl, rfl, Command.parse_programHeader_eq,
      Command.parse_eraseSegment g flag, rfl, Command.parse_copySegment g, Command.parse_lockSegment b g, rfl,
      Command.parse_commit w, rfl, rfl, rfl⟩

/-! ### The increment of a counter (R186) -/

theorem bump_eq (w : Word) : bump w = if w.toNat = 65535 then w else w + 1 := by
  have hfull : w = 0xFFFF#16 ↔ w.toNat = 65535 := BitVec.toNat_inj.symm
  simp only [bump, hfull]
  rfl

/-- Settles O25: counting raises the one place of the counters that the counter's number names. -/
theorem counterSaturates : Obligations.CounterSaturates := by
  refine fun s c => ⟨?raised, fun d hd => ?other, rfl⟩
  case raised => rw [State.counter_count, if_pos rfl, bump_eq]
  case other => rw [State.counter_count, if_neg hd]

end Sys2Proof.Machine
end

section
/-! PROOFS. A step is the command at the front of the queue of waiting commands, and no command touches those that
wait behind it: each part of the model that a command calls leaves the queue as it was. -/

namespace Sys2Proof.Machine

/-- Settles O1: the step takes the command that was put in front, and leaves the queue it was put before. -/
theorem stepRunsFrontCommand : Obligations.StepRunsFrontCommand := fun _ _ => rfl

/-- The work of the Table Store is none on the queue of commands. -/
theorem State.StoreFrame.pending {s t : State} (h : s.StoreFrame t) : t.pending = s.pending := by
  unfold State.StoreFrame at h
  rw [h]

/-! ### The Return Path and the end of a record -/

section Lines
variable (s : State)

@[simp] theorem State.offerSynthesized_pending (f : Frame) : (s.offerSynthesized f).pending = s.pending := by
  rcases s.offerSynthesized_cases f with ⟨-, h⟩ | ⟨-, h⟩ <;> simp [h]

@[simp] theorem State.offerManagement_pending (f : Frame) : (s.offerManagement f).pending = s.pending := by
  rcases s.offerManagement_cases f with ⟨-, h⟩ | ⟨-, h⟩ <;> simp [h]

@[simp] theorem State.conclude_pending (q : Received) (a : Answer) : (s.conclude q a).pending = s.pending :=
  State.offerManagement_pending _ _

@[simp] theorem State.answer_pending (c : Counter) (reply : Frame) : (s.answer c reply).pending = s.pending :=
  (s.count c).offerSynthesized_pending reply

@[simp] theorem State.endRecord_pending (t : Tag) (r : Record) (o : Origin) :
    (s.endRecord t r o).pending = s.pending := by
  rcases s.endRecord_cases t r o with ⟨-, h⟩ | ⟨-, -, -, h⟩ | ⟨-, -, h⟩ <;> simp [h]

@[simp] theorem State.deliver_pending (t : Tag) (r : Record) (reply : Frame) (o : Origin) :
    (s.deliver t r reply o).pending = s.pending := by
  rcases s.deliver_cases t r reply o with ⟨-, h⟩ | ⟨-, h⟩ <;> simp [h]

/-! ### The restart -/

@[simp] theorem State.restartCutsShort_pending : s.restartCutsShort.pending = s.pending := by
  rcases s.restartCutsShort_cases with ⟨-, h⟩ | ⟨_, -, h⟩ <;> simp [h]

@[simp] theorem State.settleRestart_pending : s.settleRestart.pending = s.pending := by
  unfold State.settleRestart
  split
  · exact s.restartCutsShort_pending
  · rfl

/-- The report of the RESTART reply reads the queue, to see whether UT's taking comes next, and leaves it. -/
@[simp] theorem State.restartReported_pending : s.restartReported.pending = s.pending := by
  rcases s.restartReported_cases with ⟨-, h⟩ | ⟨-, -, h⟩ <;> simp [h]

/-! ### Good frames -/

@[simp] theorem State.stationRequest_pending (f : Frame) : (s.stationRequest f).pending = s.pending := by
  unfold State.stationRequest
  split
  · rfl
  · exact s.answer_pending _ _
  · rename_i v _
    split
    · rfl
    · rcases s.translate_cases v f with h | ⟨_, _, h⟩ | ⟨n, _, p, -, -, h⟩ <;> rw [h]
      · rfl
      · exact s.answer_pending _ _
      · rcases s.forward_cases v n p f with ⟨-, h⟩ | ⟨-, -, h⟩ | ⟨_, _, -, -, h⟩ <;> simp [h]

@[simp] theorem State.takeRequest_pending (f : Frame) : (s.takeRequest f).pending = s.pending := by
  unfold State.takeRequest
  split
  · rfl
  · rcases s.broadcastRequest_cases f with h | h | h | ⟨_, -, h⟩ <;> simp [h]
  · exact s.stationRequest_pending f

@[simp] theorem State.takeReply_pending (f : Frame) : (s.takeReply f).pending = s.pending := by
  unfold State.takeReply
  split
  · rename_i hreply
    rcases s.matchReply_cases ⟨f.seq.toNat, hreply.2⟩ f with
      h | h | ⟨r, -, -, ⟨-, h⟩ | ⟨-, h⟩ | ⟨-, h⟩⟩ <;> simp [h]
  · rfl

/-- A management command works in the store, clears the counters, flushes the tracker or asks for a restart. -/
@[simp] theorem Command.run_pending (f : Frame) (c : Command) : (c.run f s).2.pending = s.pending := by
  rcases Command.run_frame f s c with h | h | h | ⟨_, h⟩
  · exact h.pending
  · rw [h, State.clearCounters_pending]
  · rw [h, State.flush_pending]
  · rw [h]

@[simp] theorem State.execute_pending (q : Received) : (s.execute q).pending = s.pending := by
  unfold State.execute
  split <;> simp

@[simp] theorem State.takeManagement_pending (q : Received) : (s.takeManagement q).pending = s.pending := by
  unfold State.takeManagement
  split
  · rfl
  · rfl
  · split
    · rfl
    · unfold State.replayOrExecute
      split
      · split
        · exact s.offerManagement_pending _
        · exact s.execute_pending q
      · exact s.execute_pending q

@[simp] theorem State.handOn_pending (q : Received) (line : Line) : (s.handOn q line).pending = s.pending := by
  cases line with
  | downline => exact s.takeReply_pending q.frame
  | upline =>
    change (s.handOnUpline q).pending = s.pending
    rcases s.handOnUpline_cases q with ⟨-, -, -, h⟩ | ⟨-, h⟩ <;> rw [h]
    · exact s.takeManagement_pending q
    · exact s.takeRequest_pending q.frame

@[simp] theorem State.receive_pending (line : Line) (x : Receiver × Arrival) :
    (s.receive line x).pending = s.pending := by
  rcases s.receive_cases line x with ⟨-, h⟩ | ⟨-, h⟩ | ⟨-, h⟩ | ⟨q, -, h⟩ <;> simp [h]

end Lines

/-! ### The commands of the receivers -/

section Commands
variable {s t : State}

theorem execCharacter_pending {fall : Fall} {byte : Byte} {lead keysw : Bool}
    (h : execCharacter fall byte lead keysw s = .next t) : t.pending = s.pending := by
  obtain rfl := Host.Outcome.next.inj h
  split
  · simp only
    split <;> simp
  · rfl

theorem execCharacterError_pending {fall : Fall} (h : execCharacterError fall s = .next t) :
    t.pending = s.pending := by
  obtain rfl := Host.Outcome.next.inj h
  split
  · simp only
    split <;> simp
  · rfl

theorem execGapTimerExpiry_pending {line : Line} (h : execGapTimerExpiry line s = .next t) :
    t.pending = s.pending := by
  unfold execGapTimerExpiry at h
  split at h
  · obtain rfl := Host.Outcome.next.inj h
    exact s.receive_pending line _
  · cases h

theorem execStartBit_pending {fall : Fall} (h : execStartBit fall s = .next t) : t.pending = s.pending := by
  obtain rfl := Host.Outcome.next.inj h
  split <;> simp

/-! ### The commands of the transmitters -/

theorem State.arbitrate_pending (h : s.arbitrate = .next t) : t.pending = s.pending := by
  rcases State.arbitrate_next h with ⟨_, -, rfl⟩ | ⟨-, -, rfl⟩ | ⟨_, _, _, _, _, -, -, -, -, rfl⟩ <;> simp

theorem execUtTake_pending (h : execUtTake s = .next t) : t.pending = s.pending := by
  unfold execUtTake at h
  split at h
  · cases h
  split at h
  · obtain rfl := Host.Outcome.next.inj h
    exact s.settleRestart_pending
  · unfold settled at h
    split at h
    · rename_i u hu
      obtain rfl := Host.Outcome.next.inj h
      rw [u.settleRestart_pending, State.arbitrate_pending hu]
    · rename_i hno
      exact absurd h (hno t)

theorem execUplineFrameSent_pending (h : execUplineFrameSent s = .next t) : t.pending = s.pending := by
  unfold execUplineFrameSent at h
  split at h
  · cases h
  · obtain rfl := Host.Outcome.next.inj h
    split
    · exact s.restartReported_pending
    · rfl

theorem execDtTake_pending (h : execDtTake s = .next t) : t.pending = s.pending := by
  unfold execDtTake at h
  split at h
  · cases h
  split at h
  · obtain rfl := Host.Outcome.next.inj h
    rfl
  · obtain ⟨_, -, rfl⟩ := State.sendTracked_next h
    rfl
  · obtain rfl := Host.Outcome.next.inj h
    rfl

theorem execDownlineFrameSent_pending (h : execDownlineFrameSent s = .next t) : t.pending = s.pending := by
  unfold execDownlineFrameSent at h
  split at h
  · cases h
  · rename_i d _
    obtain rfl := Host.Outcome.next.inj h
    cases d.current <;> rfl

/-! ### The timers -/

theorem execReplyTimerExpiry_pending {g : Tag} (h : execReplyTimerExpiry g s = .next t) :
    t.pending = s.pending := by
  unfold execReplyTimerExpiry at h
  split at h
  · split at h
    · obtain rfl := Host.Outcome.next.inj h
      split
      · rfl
      · exact (s.count .noReply).deliver_pending _ _ _ _
    · cases h
  · cases h

theorem execQuarantineExpiry_pending {g : Tag} (h : execQuarantineExpiry g s = .next t) :
    t.pending = s.pending := by
  unfold execQuarantineExpiry at h
  split at h
  · obtain rfl := Host.Outcome.next.inj h
    rfl
  · cases h

theorem execQuietPeriodExpiry_pending (h : execQuietPeriodExpiry s = .next t) : t.pending = s.pending := by
  unfold execQuietPeriodExpiry at h
  split at h
  · obtain rfl := Host.Outcome.next.inj h
    rfl
  · cases h

/-! ### Power and RESET_N -/

/-- An interruption loses what is volatile in the part, and the queue is no part of it. -/
@[simp] theorem State.interrupt_pending (s : State) : s.interrupt.pending = s.pending :=
  s.storeFrame_eraseProgress.pending

theorem exec_powerEvent_pending {c : Instr} (hc : isPowerEvent c = true) (h : exec c s = .next t) :
    t.pending = s.pending := by
  cases c with
  | powerOn rate madr =>
    change execPowerOn rate madr s = _ at h
    unfold execPowerOn at h
    split at h
    · cases h
    · obtain rfl := Host.Outcome.next.inj h
      split <;> rfl
  | powerFail =>
    change execPowerFail s = _ at h
    unfold execPowerFail at h
    split at h
    · obtain rfl := Host.Outcome.next.inj h
      exact s.interrupt_pending
    · cases h
  | resetNFall =>
    change execResetNFall s = _ at h
    unfold execResetNFall at h
    split at h
    · obtain rfl := Host.Outcome.next.inj h
      split
      · exact s.interrupt_pending
      · rfl
    · cases h
  | resetNRelease rate madr =>
    change execResetNRelease rate madr s = _ at h
    unfold execResetNRelease at h
    split at h
    · cases h
    · obtain rfl := Host.Outcome.next.inj h
      split <;> rfl
  | _ => cases hc

/-! ### Every command -/

/-- No command touches the queue of those that wait: not one of power or RESET_N, of the store, of a line or of a
timer. -/
theorem exec_pending {c : Instr} (h : exec c s = .next t) : t.pending = s.pending := by
  cases hp : isPowerEvent c with
  | true => exact exec_powerEvent_pending hp h
  | false =>
    cases hc : isStageEvent c with
    | true =>
      by_cases hstart : c = .startUpScan ∨ c = .pointerSelection
      · exact (exec_startUp_frame hstart h).pending
      · exact (exec_storeStage_frame hc hstart h).pending
    | false =>
      cases c with
      | character fall byte lead keysw => exact execCharacter_pending h
      | characterError fall => exact execCharacterError_pending h
      | gapTimerExpiry line => exact execGapTimerExpiry_pending h
      | utTake => exact execUtTake_pending h
      | uplineFrameSent => exact execUplineFrameSent_pending h
      | dtTake => exact execDtTake_pending h
      | downlineFrameSent => exact execDownlineFrameSent_pending h
      | replyTimerExpiry g => exact execReplyTimerExpiry_pending h
      | quarantineExpiry g => exact execQuarantineExpiry_pending h
      | quietPeriodExpiry => exact execQuietPeriodExpiry_pending h
      | startBit fall => exact execStartBit_pending h
      | powerOn | powerFail | resetNFall | resetNRelease => cases hp
      | _ => cases hc

end Commands

/-- Settles O3: every command leaves the queue as it found it. -/
theorem commandsLeaveTheQueueAlone : Obligations.CommandsLeaveTheQueueAlone := fun _ _ _ h => exec_pending h

end Sys2Proof.Machine
end

section
/-! PROOFS. What a record holds at its admission is in its ranges (R60, R75): the table in service is legal, and a
station request names a station. -/

namespace Sys2Proof.Machine

/-- The table in service: its header is legal, and so is every entry that a lookup answers (R31 to R37). -/
structure State.Serves (s : State) (v : Service) : Prop where
  header : v.header.legal = true
  entries : ∀ addr fn n e, (s.nv.bank v.active).lookup addr fn = some (n, e) → e.legal = true

theorem State.StoreInv.serves {s : State} (h : s.StoreInv) {v : Service} (hv : s.ts.mode = .running v) :
    s.Serves v := by
  obtain ⟨hheader, -⟩ := h.service v hv
  have hbank := h.banks v.active
  refine ⟨hbank.header _ hheader, fun addr fn n e hlookup => hbank.entries n e ?_⟩
  exact ((Bank.lookup_eq_some hbank.canonical).1 hlookup).1.1

/-- In RUNNING the table in service is legal. -/
def State.ServesLegal (s : State) : Prop := ∀ v, s.ts.mode = .running v → s.Serves v

theorem State.ServesLegal.of_view {s t : State} (h : s.ServesLegal) (hv : t.storeView = s.storeView) :
    t.ServesLegal := by
  obtain ⟨hnv, hts, -⟩ := State.storeView_eq.1 hv
  intro v hmode
  obtain ⟨hheader, hentries⟩ := h v (hts ▸ hmode)
  exact ⟨hheader, by rwa [hnv]⟩

/-- The address of a station request is a station's (R47). -/
theorem Frame.addr_of_station {f : Frame} (h : f.requestClass = .station) : 1#8 ≤ f.addr ∧ f.addr ≤ 0xEF#8 := by
  unfold Frame.requestClass at h
  split at h
  · cases h
  · rename_i hlow
    split at h
    · cases h
    · rename_i hzero
      simp only [Bool.or_eq_true, decide_eq_true_eq, not_or] at hlow
      obtain ⟨-, hlow⟩ := hlow
      bv_omega

/-- A FORWARD entry that is legal sends to a station's address, its own or the request's (R31, R57). -/
theorem ForwardParams.addressFor_inRange {p : ForwardParams} {f : Frame} (hp : outAddrLegal p.outAddr = true)
    (hf : 1#8 ≤ f.addr ∧ f.addr ≤ 0xEF#8) : 1#8 ≤ p.addressFor f ∧ p.addressFor f ≤ 0xEF#8 := by
  unfold ForwardParams.addressFor
  split
  · exact hf
  · rename_i hany
    simpa [outAddrLegal, hany] using hp

theorem Service.recordFor_inRange {v : Service} {n : SlotNo} {e : Entry} {p : ForwardParams} {f : Frame}
    (hv : v.header.legal = true) (he : e.legal = true) (ha : e.action = .forward p)
    (hf : 1#8 ≤ f.addr ∧ f.addr ≤ 0xEF#8) (hlength : p.front.length + f.payload.length ≤ 32) :
    (v.recordFor n p f).InRange := by
  simp only [Entry.legal, ha, Action.legal, Bool.and_eq_true, decide_eq_true_eq] at he
  obtain ⟨-, ⟨⟨⟨⟨hout, -⟩, hretry⟩, hstrip⟩, -⟩, -⟩ := he
  simp only [Header.legal, Bool.and_eq_true, decide_eq_true_eq] at hv
  obtain ⟨⟨-, htimeout⟩, hquarantine⟩ := hv
  exact {
    upAddr := hf
    downAddr := ForwardParams.addressFor_inRange hout hf
    payload := by simpa [Service.recordFor, ForwardParams.payloadFor] using hlength
    strip := by simpa [Service.recordFor, BitVec.le_def] using hstrip
    replyTimeout := by
      simp only [Service.recordFor]
      split
      · exact htimeout
      · assumption
    retryLimit := by simpa [Service.recordFor, BitVec.le_def] using hretry
    retransmissions := Nat.zero_le _
    quarantine := hquarantine
    slot := n.isLt }

end Sys2Proof.Machine
end

section
/-! PROOFS. The laws of the receivers, of the replies on their way up, of the records and of the captured times (R6,
R19, R69, R75, R104), gathered in one predicate and kept by every command. With the laws of the tracker, of the store,
of the upline queue and of ALERT_N they are the laws of the part. -/

namespace Sys2Proof.Machine

/-- What the tag holds is in its ranges, and a reply held for it is a reply (R69, R75, R104). -/
def TagState.Sound : TagState → Prop
  | .busy r => r.InRange ∧ ∀ reply origin, r.state = .held reply origin → reply.dir = true
  | .releasing captured => captured ≠ 0
  | .quarantine captured => captured ≠ 0
  | .free => True
  | .quiet => True

/-- A flushed tag keeps the quarantine time of its record (R94). -/
theorem TagState.Sound.flushed {x : TagState} (h : x.Sound) (sending : Bool) : (x.flushed sending).Sound := by
  cases x with
  | busy r => cases sending <;> exact h.1.quarantine
  | free | releasing | quarantine | quiet => exact h

/-- DT's report takes no reply from a record, and a captured time from no tag (R79, R93). -/
theorem TagState.Sound.reportedSent {x : TagState} (h : x.Sound) : x.reportedSent.Sound := by
  rcases x.reportedSent_cases with ⟨r, rfl, -, he⟩ | ⟨captured, rfl, he⟩ | ⟨-, -, he⟩ <;> rw [he]
  · exact ⟨{ h.1 with }, fun _ _ => nofun⟩
  · exact h
  · exact h

/-- The laws of the receivers, of the tags' contents and of the replies on their way up. -/
structure State.TrafficInv (s : State) : Prop where
  receivers : s.ReceiverLaw
  tags : ∀ t, (s.tag t).Sound
  queue : ∀ f ∈ s.rt.uq, f.dir = true
  holder : ∀ f ∈ s.me.holder, f.dir = true
  flight : ∀ x ∈ s.ut, x.frame.dir = true
  replay : ∀ p ∈ s.me.replay, p.reply.dir = true

theorem State.trafficInv_iff (s : State) :
    s.TrafficInv ↔ s.ReceiverLaw ∧ s.UpRepliesLaw ∧ s.RecordLaw ∧ s.CapturedLaw := by
  constructor
  · intro h
    refine ⟨h.receivers, ⟨h.queue, h.holder, h.flight, h.replay, fun t r reply origin ht => ?_⟩,
      fun t r ht => ?_, fun t => ⟨fun ht => ?_, fun ht => ?_⟩⟩ <;> have hs := h.tags t <;> rw [ht] at hs
    · exact hs.2 reply origin
    · exact hs.1
    · exact hs rfl
    · exact hs rfl
  · rintro ⟨hreceivers, ⟨hqueue, hholder, hflight, hreplay, hheld⟩, hrecords, hcaptured⟩
    refine ⟨hreceivers, fun t => ?_, hqueue, hholder, hflight, hreplay⟩
    cases ht : s.tag t with
    | busy r => exact ⟨hrecords t r ht, fun reply origin => hheld t r reply origin ht⟩
    | releasing captured => rintro rfl; exact (hcaptured t).1 ht
    | quarantine captured => rintro rfl; exact (hcaptured t).2 ht
    | free | quiet => trivial

section Traffic
variable {s : State} (h : s.TrafficInv)
include h

/-- The work of the Table Store touches nothing that these laws speak of. -/
theorem State.TrafficInv.of_storeFrame {t : State} (hf : s.StoreFrame t) : t.TrafficInv := by
  unfold State.StoreFrame at hf
  rw [hf]
  exact { h with }

/-! ### Tags -/

theorem State.TrafficInv.record {t : Tag} {r : Record} (ht : s.tag t = .busy r) : r.InRange := by
  have hs := h.tags t
  rw [ht] at hs
  exact hs.1

theorem State.TrafficInv.count (c : Counter) : (s.count c).TrafficInv := { h with }

/-- Whatever else becomes of the tracker and the hold list, the tags are sound (R69, R75). -/
theorem State.TrafficInv.withTracker {tt : Tracker} (htags : ∀ t, (tt.tags.get t).Sound) (held : List Tag) :
    State.TrafficInv { s with tt := tt, rt := { s.rt with holdList := held } } :=
  { h with tags := htags }

theorem State.TrafficInv.setTag (t : Tag) {x : TagState} (hx : x.Sound) : (s.setTag t x).TrafficInv := by
  refine h.withTracker (fun u => ?_) s.rt.holdList
  rw [get_setAt]
  split
  · exact hx
  · exact h.tags u

theorem State.TrafficInv.freeTag (t : Tag) : (s.freeTag t).TrafficInv :=
  { h.setTag t (x := .free) trivial with }

/-- A record in its ranges that holds no reply. -/
theorem State.TrafficInv.setBusy (t : Tag) {r : Record} (hr : r.InRange)
    (hstate : ∀ reply origin, r.state ≠ .held reply origin) : (s.setTag t (.busy r)).TrafficInv :=
  h.setTag t ⟨hr, fun reply origin hheld => absurd hheld (hstate reply origin)⟩

/-- All 32 tags pass to one state (R73, R74). -/
theorem State.TrafficInv.allTags {x : TagState} (hx : x.Sound) (freeList : List Tag) (timer : Option Byte) :
    State.TrafficInv { s with tt := { s.tt with
      tags := Vector.replicate 32 x, freeList := freeList, quietTimer := timer } } :=
  h.withTracker (fun u => by rw [get_replicate]; exact hx) s.rt.holdList

theorem State.TrafficInv.flush : s.flush.TrafficInv := by
  unfold State.flush
  refine h.withTracker (fun u => ?_) []
  rw [get_ofFn]
  exact (h.tags u).flushed _

/-! ### Offers and deliveries -/

theorem State.TrafficInv.enqueueUp {f : Frame} (hf : f.dir = true) : (s.enqueueUp f).TrafficInv :=
  { h with
    queue := fun g hg => by
      rcases List.mem_append.1 hg with hg | hg
      · exact h.queue g hg
      · rw [List.mem_singleton.1 hg]; exact hf }

theorem State.TrafficInv.offerManagement {f : Frame} (hf : f.dir = true) : (s.offerManagement f).TrafficInv := by
  rcases s.offerManagement_cases f with ⟨-, he⟩ | ⟨-, he⟩ <;> rw [he]
  · exact h.enqueueUp hf
  · exact { h with holder := fun g hg => by obtain rfl := Option.some.inj hg; exact hf }

theorem State.TrafficInv.answer (c : Counter) {f : Frame} (hf : f.dir = true) : (s.answer c f).TrafficInv := by
  change ((s.count c).offerSynthesized f).TrafficInv
  rcases (s.count c).offerSynthesized_cases f with ⟨-, he⟩ | ⟨-, he⟩ <;> rw [he]
  · exact (h.count c).enqueueUp hf
  · exact (h.count c).count _

theorem State.TrafficInv.endRecord (t : Tag) {r : Record} (hr : r.InRange) (o : Origin) :
    (s.endRecord t r o).TrafficInv := by
  rcases s.endRecord_cases t r o with ⟨-, he⟩ | ⟨-, -, -, he⟩ | ⟨-, -, he⟩ <;> rw [he]
  · exact h.setTag t hr.quarantine
  · exact h.freeTag t
  · exact h.setTag t hr.quarantine

theorem State.TrafficInv.deliver (t : Tag) {r : Record} (hr : r.InRange) {reply : Frame} (hreply : reply.dir = true)
    (o : Origin) : (s.deliver t r reply o).TrafficInv := by
  rcases s.deliver_cases t r reply o with ⟨-, he⟩ | ⟨-, he⟩ <;> rw [he]
  · exact (h.enqueueUp hreply).endRecord t hr o
  · have hheld : TagState.Sound (.busy { r with state := .held reply o }) :=
      ⟨{ hr with }, fun _ _ he => by obtain ⟨rfl, -⟩ := RecordState.held.inj he; exact hreply⟩
    exact { h.setTag t hheld with }

/-! ### Good frames -/

theorem State.TrafficInv.forward (hs : s.ServesLegal) {v : Service} (hv : s.ts.mode = .running v) {f : Frame}
    (hf : 1#8 ≤ f.addr ∧ f.addr ≤ 0xEF#8) {n : SlotNo} {e : Entry} {p : ForwardParams}
    (hlookup : (s.nv.bank v.active).lookup f.addr f.fn = some (n, e)) (ha : e.action = .forward p) :
    (s.forward v n p f).TrafficInv := by
  obtain ⟨hheader, hentries⟩ := hs v hv
  rcases s.forward_cases v n p f with ⟨-, he⟩ | ⟨-, -, he⟩ | ⟨t, rest, hlength, -, he⟩ <;> rw [he]
  · exact h.answer _ rfl
  · exact h.answer _ rfl
  · have hrecord := Service.recordFor_inRange (n := n) hheader (hentries _ _ _ _ hlookup) ha hf hlength
    exact { h.setBusy t hrecord (fun _ _ => nofun) with }

theorem State.TrafficInv.stationRequest (hs : s.ServesLegal) {f : Frame}
    (hf : 1#8 ≤ f.addr ∧ f.addr ≤ 0xEF#8) : (s.stationRequest f).TrafficInv := by
  unfold State.stationRequest
  split
  · exact h
  · exact h.answer _ rfl
  · rename_i v hv
    split
    · exact h.count _
    · rcases s.translate_cases v f with he | ⟨exc, payload, he⟩ | ⟨n, e, p, hlookup, ha, he⟩ <;> rw [he]
      · exact h.count _
      · exact h.answer _ rfl
      · exact h.forward hs hv hf hlookup ha

theorem State.TrafficInv.takeRequest (hs : s.ServesLegal) (f : Frame) : (s.takeRequest f).TrafficInv := by
  unfold State.takeRequest
  split
  · exact h.count _
  · rcases s.broadcastRequest_cases f with he | he | he | ⟨p, -, he⟩ <;> rw [he]
    · exact h
    · exact h.count _
    · exact h.count _
    · exact { h with }
  · rename_i hclass
    exact h.stationRequest hs (Frame.addr_of_station hclass)

theorem State.TrafficInv.takeReply (f : Frame) : (s.takeReply f).TrafficInv := by
  unfold State.takeReply
  split
  · rename_i hreply
    rcases s.matchReply_cases ⟨f.seq.toNat, hreply.2⟩ f with
      he | he | ⟨r, htag, -, ⟨-, he⟩ | ⟨-, he⟩ | ⟨-, he⟩⟩ <;> rw [he]
    · exact h.count _
    · exact h.count _
    · exact h.deliver _ (h.record htag) rfl _
    · have hwithdrawn : (s.withdraw ⟨f.seq.toNat, hreply.2⟩).TrafficInv := { h with }
      exact hwithdrawn.deliver _ (h.record htag) rfl _
    · exact h.deliver _ (h.record htag) rfl _
  · exact h.count _

/-! ### Management requests -/

theorem State.TrafficInv.run (f : Frame) (c : Command) : (c.run f s).2.TrafficInv := by
  rcases Command.run_frame f s c with he | he | he | ⟨reply, he⟩
  · exact h.of_storeFrame he
  · rw [he]; exact { h with }
  · rw [he]; exact h.flush
  · rw [he]; exact { h with }

theorem State.TrafficInv.conclude (q : Received) (a : Answer) : (s.conclude q a).TrafficInv := by
  have hreply : (q.frame.managementReply a).dir = true := by cases a <;> rfl
  refine State.TrafficInv.offerManagement ?_ hreply
  exact { h with replay := fun p hp => by obtain rfl := Option.some.inj hp; exact hreply }

theorem State.TrafficInv.execute (q : Received) : (s.execute q).TrafficInv := by
  unfold State.execute
  split
  · exact h.conclude q _
  · exact (h.run q.frame _).conclude q _

theorem State.TrafficInv.takeManagement (q : Received) : (s.takeManagement q).TrafficInv := by
  unfold State.takeManagement
  split
  · exact h
  · exact h
  · split
    · exact h.count _
    · unfold State.replayOrExecute
      split
      · rename_i r hr
        split
        · exact h.offerManagement (h.replay r hr)
        · exact h.execute q
      · exact h.execute q

theorem State.TrafficInv.handOn (hs : s.ServesLegal) (q : Received) (line : Line) :
    (s.handOn q line).TrafficInv := by
  cases line with
  | downline => exact h.takeReply q.frame
  | upline =>
    change (s.handOnUpline q).TrafficInv
    rcases s.handOnUpline_cases q with ⟨-, -, -, he⟩ | ⟨-, he⟩ <;> rw [he]
    · exact h.takeManagement q
    · exact h.takeRequest hs q.frame

/-! ### The receivers -/

theorem State.TrafficInv.receiver_inRange (line : Line) : (s.receiver line).InRange := by
  obtain ⟨⟨⟨hur, hdr⟩, -⟩, -⟩ := h
  cases line
  · exact hur
  · exact hdr

/-- An event at a receiver leaves it in its range, and in HUNT or DISCARD if it then waits for its pin (R2, R6). -/
theorem State.TrafficInv.atReceiver {r : Receiver} (hr : r.InRange) {b : Bool} {line : Line}
    (hwaits : b = true → r = .hunt ∨ r = .discard) :
    ((s.setAwaitsHigh b line).setReceiver r line).TrafficInv := by
  have hlaw : ((s.setAwaitsHigh b line).setReceiver r line).ReceiverLaw := by
    obtain ⟨⟨hur, hdr⟩, hboth⟩ := h.receivers
    refine ⟨by cases line <;> exact ⟨by assumption, by assumption⟩, fun other ho => ?_⟩
    rw [State.setReceiver_awaitsHigh] at ho
    by_cases hline : line = other
    · subst hline
      rw [State.setAwaitsHigh_awaitsHigh] at ho
      rw [State.setReceiver_receiver]
      exact hwaits ho
    · rw [s.setAwaitsHigh_awaitsHigh_ne b hline] at ho
      rw [State.setReceiver_receiver_ne _ r hline, State.setAwaitsHigh_receiver]
      exact hboth other ho
  cases line <;> exact { h with receivers := hlaw }

theorem State.TrafficInv.setAwaitsHigh {b : Bool} {line : Line}
    (hwaits : b = true → s.receiver line = .hunt ∨ s.receiver line = .discard) :
    (s.setAwaitsHigh b line).TrafficInv := by
  have hreceiver : (s.setAwaitsHigh b line).receiver line = s.receiver line := s.setAwaitsHigh_receiver b line line
  rw [← State.setReceiver_self hreceiver]
  exact h.atReceiver (h.receiver_inRange line) hwaits

theorem State.TrafficInv.receive (hs : s.ServesLegal) {b : Bool} {line : Line} {x : Receiver × Arrival}
    (hr : x.1.InRange) (hwaits : b = true → x.1 = .hunt ∨ x.1 = .discard) :
    ((s.setAwaitsHigh b line).receive line x).TrafficInv := by
  have hreceiver := h.atReceiver hr hwaits (line := line)
  rcases (s.setAwaitsHigh b line).receive_cases line x with
    ⟨-, he⟩ | ⟨-, he⟩ | ⟨-, he⟩ | ⟨q, -, he⟩ <;> rw [he]
  · exact hreceiver
  · exact hreceiver.count _
  · exact hreceiver.count _
  · exact (hreceiver.count _).handOn (hs.of_view (by simp)) q line

/-! ### Restart and reset -/

omit h in
/-- A quiescent part has nothing that these laws could speak of. -/
theorem State.Quiescent.trafficInv (hq : s.Quiescent) : s.TrafficInv := by
  have hquiet := hq.swept.tags
  obtain ⟨⟨hur, hdr⟩, ⟨hut, -, -⟩, -, hrt, hme⟩ := hq
  refine ⟨⟨?_, ?_⟩, fun t => ?_, ?_, ?_, ?_, ?_⟩
  · rw [hur, hdr]; exact ⟨trivial, trivial⟩
  · intro line _
    cases line
    · exact .inl hur
    · exact .inl hdr
  · rw [hquiet t]; trivial
  · rw [hrt]; exact nofun
  · rw [hme]; exact nofun
  · rw [hut]; exact nofun
  · rw [hme]; exact nofun

omit h in
theorem State.restart_trafficInv (s : State) : s.restart.TrafficInv where
  receivers := ⟨⟨trivial, trivial⟩, fun line _ => by cases line <;> exact .inl rfl⟩
  tags t := by rw [s.restart_swept.tags t]; trivial
  queue := nofun
  holder := nofun
  flight := nofun
  replay := nofun

theorem State.TrafficInv.settleRestart : s.settleRestart.TrafficInv := by
  unfold State.settleRestart
  split
  · rcases s.restartCutsShort_cases with ⟨-, he⟩ | ⟨x, -, he⟩ <;> rw [he]
    · exact s.restart_trafficInv
    · exact { s.restart_trafficInv with }
  · exact h

theorem State.TrafficInv.tick : s.tick.TrafficInv := by
  rcases s.tick_cases with ⟨-, he⟩ | ⟨-, he⟩ <;> rw [he]
  · exact s.restart_trafficInv
  · refine { h with flight := fun x hx => ?_ }
    obtain ⟨y, hy, rfl⟩ := Option.map_eq_some_iff.1 hx
    have hframe : y.advance.frame = y.frame := by
      unfold InFlight.advance
      split <;> rfl
    rw [hframe]
    exact h.flight y hy

/-! ### The commands of the receivers -/

theorem execCharacter_trafficInv (hs : s.ServesLegal) {fall : Fall} {byte : Byte} {lead keysw : Bool} {t : State}
    (he : execCharacter fall byte lead keysw s = .next t) : t.TrafficInv := by
  obtain rfl := Host.Outcome.next.inj he
  have hkey : (s.withKey keysw).TrafficInv := { h with }
  split
  · simp only
    split
    · exact hkey.receive (hs.of_view rfl) (Receiver.takeCharacter_inRange (h.receiver_inRange _) byte lead) nofun
    · exact hkey.setAwaitsHigh nofun
  · exact hkey

/-- The receiver gives up its partial frame and waits for its pin; in STARTING it holds none (R10, R15). -/
theorem execCharacterError_trafficInv (hr : s.ResetLaw) (hs : s.ServesLegal) {fall : Fall} {t : State}
    (he : execCharacterError fall s = .next t) : t.TrafficInv := by
  obtain rfl := Host.Outcome.next.inj he
  split
  · simp only
    split
    · have hrange : (s.receiver fall.line).takeError.1.InRange := by cases s.receiver fall.line <;> trivial
      refine h.receive hs hrange fun _ => ?_
      cases s.receiver fall.line
      · exact .inl rfl
      · exact .inr rfl
      · exact .inr rfl
    · rename_i hdeaf
      rcases hr.live_or_quiescent with hl | ⟨hq, -⟩
      · exact absurd (by simp [State.listening, hl.outOfReset, hl.started]) hdeaf
      · exact (hq.setAwaitsHigh true fall.line).trafficInv
  · exact h

theorem execGapTimerExpiry_trafficInv (hs : s.ServesLegal) {line : Line} {t : State}
    (he : execGapTimerExpiry line s = .next t) : t.TrafficInv := by
  unfold execGapTimerExpiry at he
  split at he
  · obtain rfl := Host.Outcome.next.inj he
    have hreceive := h.receive hs (b := s.awaitsHigh line) (line := line) (x := (.hunt, .formError)) trivial
      fun _ => .inl rfl
    rwa [State.setAwaitsHigh_self rfl] at hreceive
  · cases he

theorem execStartBit_trafficInv {fall : Fall} {t : State} (he : execStartBit fall s = .next t) :
    t.TrafficInv := by
  obtain rfl := Host.Outcome.next.inj he
  have hr : (s.receiver fall.line).startBit.InRange := by
    have hr := h.receiver_inRange fall.line
    cases hx : s.receiver fall.line <;> rw [hx] at hr <;> exact hr
  split
  · exact h.atReceiver hr nofun
  · exact h

/-! ### The commands of the transmitters -/

theorem State.TrafficInv.arbitrate {t : State} (he : s.arbitrate = .next t) : t.TrafficInv := by
  rcases State.arbitrate_next he with ⟨f, hf, rfl⟩ | ⟨-, -, rfl⟩
    | ⟨g, rest, r, reply, o, -, -, htag, hheld, rfl⟩
  · have hfree : State.TrafficInv { s with me := { s.me with holder := none } } := { h with holder := nofun }
    exact hfree.enqueueUp (h.holder f hf)
  · exact h
  · have hg := h.tags g
    rw [htag] at hg
    have htaken : State.TrafficInv { s with rt := { s.rt with holdList := rest } } := { h with }
    exact (htaken.enqueueUp (hg.2 reply o hheld)).endRecord g hg.1 o

theorem execUtTake_trafficInv {t : State} (he : execUtTake s = .next t) : t.TrafficInv := by
  unfold execUtTake at he
  split at he
  · cases he
  split at he
  · obtain rfl := Host.Outcome.next.inj he
    exact h.settleRestart
  · rename_i f rest huq
    unfold settled at he
    split at he
    · rename_i u hu
      obtain rfl := Host.Outcome.next.inj he
      have hqueue : ∀ g ∈ f :: rest, g.dir = true := huq ▸ h.queue
      refine (State.TrafficInv.arbitrate ?_ hu).settleRestart
      exact { h with
        queue := fun g hg => hqueue g (List.mem_cons_of_mem f hg)
        flight := fun x hx => by obtain rfl := Option.some.inj hx; exact hqueue f List.mem_cons_self }
    · rename_i hno
      exact absurd he (hno t)

theorem execUplineFrameSent_trafficInv {t : State} (he : execUplineFrameSent s = .next t) : t.TrafficInv := by
  unfold execUplineFrameSent at he
  split at he
  · cases he
  · obtain rfl := Host.Outcome.next.inj he
    split
    · rcases s.restartReported_cases with ⟨-, he⟩ | ⟨-, -, he⟩ <;> rw [he]
      · exact s.restart_trafficInv
      · exact { h with flight := nofun }
    · exact { h with flight := nofun }

theorem execDtTake_trafficInv {t : State} (he : execDtTake s = .next t) : t.TrafficInv := by
  unfold execDtTake at he
  split at he
  · cases he
  split at he
  · obtain rfl := Host.Outcome.next.inj he
    exact h
  · rename_i g rest _
    obtain ⟨r, htag, rfl⟩ := State.sendTracked_next he
    exact { h.setBusy g (r := { r with state := .sending }) { h.record htag with } (fun _ _ => nofun) with }
  · obtain rfl := Host.Outcome.next.inj he
    exact { h with }

theorem execDownlineFrameSent_trafficInv {t : State} (he : execDownlineFrameSent s = .next t) :
    t.TrafficInv := by
  unfold execDownlineFrameSent at he
  split at he
  · cases he
  · rename_i d _
    obtain rfl := Host.Outcome.next.inj he
    cases d.current with
    | untracked => exact { h with }
    | tracked g => exact { h.setTag g (h.tags g).reportedSent with }

/-! ### The timers -/

/-- A retransmission is made while the record's limit leaves one (R81). -/
theorem execReplyTimerExpiry_trafficInv {g : Tag} {t : State} (he : execReplyTimerExpiry g s = .next t) :
    t.TrafficInv := by
  unfold execReplyTimerExpiry at he
  split at he
  · rename_i r htag
    have hr := h.record htag
    split at he
    · obtain rfl := Host.Outcome.next.inj he
      split
      · rename_i hmore
        exact { h.setBusy g (r := { r with state := .waitLine, retransmissions := r.retransmissions + 1 })
          { hr with retransmissions := hmore } (fun _ _ => nofun) with }
      · exact (h.count .noReply).deliver g hr rfl _
    · cases he
  · cases he

theorem execQuarantineExpiry_trafficInv {g : Tag} {t : State} (he : execQuarantineExpiry g s = .next t) :
    t.TrafficInv := by
  unfold execQuarantineExpiry at he
  split at he
  · obtain rfl := Host.Outcome.next.inj he
    exact h.freeTag g
  · cases he

theorem execQuietPeriodExpiry_trafficInv {t : State} (he : execQuietPeriodExpiry s = .next t) :
    t.TrafficInv := by
  unfold execQuietPeriodExpiry at he
  split at he
  · obtain rfl := Host.Outcome.next.inj he
    exact h.allTags (x := .free) trivial _ _
  · cases he

/-! ### Every command -/

/-- Start-up leaves every tag in the quiet period, and works in the store besides (R162 to R164). -/
theorem exec_startUp_trafficInv (hr : s.ResetLaw) {c : Instr} {t : State}
    (hc : c = .startUpScan ∨ c = .pointerSelection) (he : exec c s = .next t) : t.TrafficInv := by
  have htags : ∀ g, (t.tt.tags.get g).Sound := fun g => by
    change (t.tag g).Sound
    rw [(exec_startUp_swept hc hr he).tags g]
    trivial
  exact State.TrafficInv.of_storeFrame (h.withTracker htags s.rt.holdList) (exec_startUp_frame hc he)

theorem exec_trafficInv (hr : s.ResetLaw) (hs : s.ServesLegal) {c : Instr} {t : State}
    (he : exec c s = .next t) : t.TrafficInv := by
  cases hp : isPowerEvent c with
  | true =>
    have ht := (exec_powerEvent hp he).2 hr
    exact (ht.reset.2.1 ht.starting).1.trafficInv
  | false =>
    cases hc : isStageEvent c with
    | true =>
      by_cases hstart : c = .startUpScan ∨ c = .pointerSelection
      · exact exec_startUp_trafficInv h hr hstart he
      · exact h.of_storeFrame (exec_storeStage_frame hc hstart he)
    | false =>
      cases c with
      | character fall byte lead keysw => exact execCharacter_trafficInv h hs he
      | characterError fall => exact execCharacterError_trafficInv h hr hs he
      | gapTimerExpiry line => exact execGapTimerExpiry_trafficInv h hs he
      | utTake => exact execUtTake_trafficInv h he
      | uplineFrameSent => exact execUplineFrameSent_trafficInv h he
      | dtTake => exact execDtTake_trafficInv h he
      | downlineFrameSent => exact execDownlineFrameSent_trafficInv h he
      | replyTimerExpiry g => exact execReplyTimerExpiry_trafficInv h he
      | quarantineExpiry g => exact execQuarantineExpiry_trafficInv h he
      | quietPeriodExpiry => exact execQuietPeriodExpiry_trafficInv h he
      | startBit fall => exact execStartBit_trafficInv h he
      | powerOn | powerFail | resetNFall | resetNRelease => cases hp
      | _ => cases hc

theorem step_trafficInv (hr : s.ResetLaw) (hs : s.ServesLegal) {t : State} (he : step s = .next t) :
    t.TrafficInv := by
  unfold step at he
  split at he
  · obtain rfl := Host.Outcome.next.inj he
    exact h.tick
  · rename_i c rest _
    have hrest : State.TrafficInv { s with pending := rest } := { h with }
    exact exec_trafficInv hrest (hr.withPending rest) (hs.of_view rfl) he

end Traffic

/-! ### The laws of the part -/

/-- Settles O10: the laws of the tracker, of the store and of the upline queue are kept each by itself, ALERT_N is
left alone or driven to its level, and the traffic keeps its laws under a table that the store keeps legal. -/
theorem everyStepKeepsTheLaws : Obligations.EveryStepKeepsTheLaws := by
  intro s t hs h
  have htraffic : s.TrafficInv := s.trafficInv_iff.2 ⟨hs.receivers, hs.upReplies, hs.records, hs.captured⟩
  obtain ⟨hreceivers, hreplies, hrecords, hcaptured⟩ :=
    t.trafficInv_iff.1 (step_trafficInv htraffic hs.store.reset (fun _ => hs.store.serves) h)
  exact {
    tracker := everyStepKeepsTheTrackerLaws s t hs.tracker h
    store := everyStepKeepsTheStoreLaws s t hs.store h
    upQueue := (step_returnMoves h).upQueueLaw hs.upQueue
    upReplies := hreplies
    records := hrecords
    captured := hcaptured
    receivers := hreceivers
    alert := by
      cases step_alertStep h with
      | kept hview => exact hs.alert.of_view hview
      | driven ht => exact ht }

end Sys2Proof.Machine
end

section
/-! PROOFS. The receivers, event by event: what a character, a character error, a start bit and the end of the gap
timer make of a receiver in each of its states, and where nothing is taken (R2, R6 to R15, R44). -/

namespace Sys2Proof.Machine

/-! ### Characters in COLLECT (R8, R11) -/

/-- The Length character sets the expected length (R8). -/
theorem appendCharacter_length {bytes : List Byte} (h : bytes.length = 3) (expected : Option Nat) {b : Byte}
    (hb : b.toNat ≤ 32) :
    appendCharacter bytes expected b = (.collect (bytes ++ [b]) (some (6 + b.toNat)) true, .nothing) := by
  have hlength : (bytes ++ [b]).length = 4 := by simp [h]
  have hmore : some (6 + b.toNat) ≠ some 4 := by simp; omega
  simp only [appendCharacter, hlength, Config.maxPayload, Nat.not_lt.2 hb, and_false, if_false, if_true,
    if_neg hmore]

/-- A Length above 32 abandons the frame (R8). -/
theorem appendCharacter_tooLong {bytes : List Byte} (h : bytes.length = 3) (expected : Option Nat) {b : Byte}
    (hb : 32 < b.toNat) : appendCharacter bytes expected b = (.discard, .formError) :=
  if_pos ⟨by simp [h], hb⟩

/-- Any other character is appended, until the expected length is reached (R8, R11). -/
theorem appendCharacter_other {bytes : List Byte} (h : bytes.length ≠ 3) (expected : Option Nat) (b : Byte) :
    appendCharacter bytes expected b =
      if expected = some (bytes.length + 1) then (.hunt, completeFrame (bytes ++ [b]))
      else (.collect (bytes ++ [b]) expected true, .nothing) := by
  have hlength : (bytes ++ [b]).length = bytes.length + 1 := by simp
  have hlate : ¬ bytes.length + 1 = 4 := fun h4 => h (Nat.succ_injective h4)
  simp only [appendCharacter, hlength, hlate, false_and, if_false]

/-! ### A recognised start bit -/

section Taken
variable {s : State} {line : Line} {rested : Bool}

/-- A character that a listening part recognises is taken by its receiver (R2). -/
theorem exec_character_taken (hl : s.listening = true) (hr : s.recognises ⟨line, rested⟩ = true) (b : Byte)
    (lead keysw : Bool) :
    exec (.character ⟨line, rested⟩ b lead keysw) s = .next
      (((s.withKey keysw).setAwaitsHigh false line).receive line ((s.receiver line).takeCharacter b lead)) := by
  change execCharacter _ _ _ _ _ = _
  rw [execCharacter_listening hl, if_pos hr]

/-- A character error that a listening part recognises is taken by its receiver, which then waits (R2). -/
theorem exec_characterError_taken (hl : s.listening = true) (hr : s.recognises ⟨line, rested⟩ = true) :
    exec (.characterError ⟨line, rested⟩) s =
      .next ((s.setAwaitsHigh true line).receive line (s.receiver line).takeError) := by
  simp only [exec, execCharacterError, hr, hl, if_true]

theorem exec_startBit_recognised (hr : s.recognises ⟨line, rested⟩ = true) :
    exec (.startBit ⟨line, rested⟩) s =
      .next ((s.setAwaitsHigh false line).setReceiver (s.receiver line).startBit line) := by
  simp only [exec, execStartBit, hr, if_true]

/-- A fall that the receiver does not look for has no effect, but for the level that comes with it (R2, R15). -/
theorem exec_unrecognised (hr : s.recognises ⟨line, rested⟩ = false) :
    exec (.startBit ⟨line, rested⟩) s = .next s ∧ exec (.characterError ⟨line, rested⟩) s = .next s
      ∧ ∀ b lead keysw, exec (.character ⟨line, rested⟩ b lead keysw) s = .next (s.withKey keysw) := by
  refine ⟨?_, ?_, fun b lead keysw => ?_⟩
  · simp only [exec, execStartBit, hr, Bool.false_eq_true, if_false]
  · simp only [exec, execCharacterError, hr, Bool.false_eq_true, if_false]
  · simp only [exec, execCharacter, hr, Bool.false_eq_true, if_false]
    rfl

/-- A receiver that goes on in the state it is in has nothing done to it but the count. -/
theorem State.receive_unmoved {b : Bool} {r : Receiver} (h : s.receiver line = r) (x : Arrival) :
    (s.setAwaitsHigh b line).receive line (r, x) = (s.setAwaitsHigh b line).arrive line x := by
  have hreceiver : (s.setAwaitsHigh b line).receiver line = r := by rw [s.setAwaitsHigh_receiver, h]
  rw [State.receive, State.setReceiver_self hreceiver]

end Taken

/-! ### Characters -/

/-- Settles O20: a lead character starts a frame in every state, and cuts one short in COLLECT alone. -/
theorem leadCharacterStartsAFrame : Obligations.LeadCharacterStartsAFrame := by
  intro s line b keysw rested hl hr u
  refine ⟨fun h => ?_, fun bytes expected running h => ?_⟩ <;> rw [exec_character_taken hl hr]
  · rcases h with h | h <;> rw [h] <;> rfl
  · rw [h]; rfl

/-- Settles O21: by the state of the receiver, and in COLLECT by whether the character is the Length. -/
theorem laterCharacterIsAppended : Obligations.LaterCharacterIsAppended := by
  intro s line b keysw rested hl hr u
  rw [exec_character_taken hl hr]
  refine ⟨fun h => ?hunt, fun h => ?discard, fun bytes expected running h => ?collect⟩ <;> rw [h]
  case hunt => exact congrArg _ (State.receive_unmoved (s := s.withKey keysw) h .formError)
  case discard => exact congrArg _ (State.receive_unmoved (s := s.withKey keysw) h .nothing)
  case collect =>
    simp only [Receiver.takeCharacter, Bool.false_eq_true, if_false]
    refine ⟨fun h3 hb => ?_, fun h3 hb => ?_, fun h3 hmore => ?_⟩
    · rw [appendCharacter_length h3 expected hb]; rfl
    · rw [appendCharacter_tooLong h3 expected hb]; rfl
    · rw [appendCharacter_other h3, if_neg hmore]; rfl

/-- Settles O22: a good frame goes by its line and its address, a bad check is counted, and the address of the Engine
is the header's or the strapped one. -/
theorem lastCharacterCompletesTheFrame : Obligations.LastCharacterCompletesTheFrame := by
  refine ⟨fun s f keysw rested h => ?upline, fun s f keysw rested h => ?downline,
    fun s line body hi lo running keysw rested hl hr hbody hreceiver hcheck => ?bad,
    fun s => ⟨fun v hv => ?running, fun hnot => ?strapped⟩⟩
  case upline =>
    rw [h.exec_lastCharacter, ← s.afterFrame_mgmtAddr .upline keysw]
    rfl
  case downline =>
    rw [h.exec_lastCharacter]
    rfl
  case bad =>
    have hlate : (body ++ [hi]).length ≠ 3 := by simp; omega
    have hlast : some (body.length + 2) = some ((body ++ [hi]).length + 1) := by simp
    rw [exec_character_taken hl hr, hreceiver]
    simp only [Receiver.takeCharacter, Bool.false_eq_true, if_false]
    rw [appendCharacter_other hlate, if_pos hlast, completeFrame_eq, if_neg hcheck]
    rfl
  case running => exact State.mgmtAddr_of_running hv
  case strapped =>
    have hstrapped : ∀ madr : BitVec 2, (Config.strappedBase + madr.setWidth 8).toNat = 0xF8 + madr.toNat := by
      decide
    rw [← hstrapped]
    unfold State.mgmtAddr
    split
    · rename_i v hv
      exact absurd hv (hnot v)
    · rfl

/-! ### Character errors, start bits and the gap timer -/

/-- Settles O23: each event by the state of the receiver, and the wait by what the receiver recognises. -/
theorem partialFrameIsAbandoned : Obligations.PartialFrameIsAbandoned := by
  refine ⟨fun s line rested hl hr => ?error, fun s line hwaits => ?waits, fun s line rested hr => ?startBit,
    fun s line => ⟨fun bytes expected h => ?expired, fun hnot => ?stopped⟩, fun s => s.recognises_iff⟩
  case error =>
    rw [exec_characterError_taken hl hr]
    refine ⟨fun h => ?_, fun bytes expected running h => ?_, fun h => ?_⟩ <;> rw [h]
    · exact congrArg _ (State.receive_unmoved h .formError)
    · rfl
    · exact congrArg _ (State.receive_unmoved h .nothing)
  case waits =>
    exact exec_unrecognised (by simp [State.recognises, hwaits])
  case startBit =>
    have hself : ∀ r, s.receiver line = r →
        (s.setAwaitsHigh false line).setReceiver r line = s.setAwaitsHigh false line := fun r h =>
      State.setReceiver_self ((s.setAwaitsHigh_receiver false line line).trans h)
    rw [exec_startBit_recognised hr]
    refine ⟨fun bytes expected running h => ?_, fun h => ?_⟩
    · rw [h]; rfl
    · rcases h with h | h <;> rw [h] <;> exact congrArg _ (hself _ h)
  case expired =>
    simp only [exec, execGapTimerExpiry, h, Receiver.gapTimer, if_true]
    rfl
  case stopped =>
    have hrest : (s.receiver line).gapTimer = false := by
      cases h : s.receiver line with
      | hunt | discard => rfl
      | collect bytes expected running =>
        cases running
        · rfl
        · exact absurd h (hnot bytes expected)
    simp only [exec, execGapTimerExpiry, hrest, Bool.false_eq_true, if_false]

/-- Settles O24: in reset no start bit is recognised, and in STARTING the receivers take nothing. -/
theorem receiversAreDeafBeforeService : Obligations.ReceiversAreDeafBeforeService := by
  intro s line b lead keysw rested
  refine ⟨fun hreset => ?_, fun hr hmode => ?_⟩
  · have hdeaf : s.recognises ⟨line, rested⟩ = false := by
      rcases hreset with h | h <;> simp [State.recognises, State.outOfReset, h]
    obtain ⟨hstart, herror, hcharacter⟩ := exec_unrecognised hdeaf
    exact ⟨hcharacter b lead keysw, herror, hstart⟩
  · have hdeaf : s.listening = false := by simp [State.listening, hmode]
    constructor
    · simp only [exec, execCharacter, hr, hdeaf, if_true, Bool.false_eq_true, if_false]
      rfl
    · simp only [exec, execCharacterError, hr, hdeaf, if_true, Bool.false_eq_true, if_false]

end Sys2Proof.Machine
end

section
/-! PROOFS. A frame on the line: what a transmitter sends for it, taken character by character, is that frame (R4, R8,
R11, R18); a character's levels are that character (R1, R2); and the check tells apart what differs in one byte
(R5). -/

namespace Sys2Proof.Machine

/-! ### The part in the middle of a frame -/

/-- The part as the characters of a frame leave it before the last: they are held by the line's receiver, with the gap
timer running (R6 to R8). -/
def State.holding (s : State) (line : Line) (keysw : Bool) (bytes : List Byte) (expected : Option Nat) : State :=
  ((s.withKey keysw).setAwaitsHigh false line).setReceiver (.collect bytes expected true) line

section Holding
variable {s : State} {line : Line} {keysw : Bool} {bytes : List Byte} {expected : Option Nat}

theorem State.holding_receiver :
    (s.holding line keysw bytes expected).receiver line = .collect bytes expected true :=
  State.receiver_setReceiver ..

theorem State.holding_listening : (s.holding line keysw bytes expected).listening = s.listening := by
  cases line <;> rfl

theorem State.holding_attentive : (s.holding line keysw bytes expected).awaitsHigh line = false := by
  rw [State.holding, State.setReceiver_awaitsHigh, State.setAwaitsHigh_awaitsHigh]

/-- Whatever the receiver held, the next character decides what it holds. -/
theorem State.holding_next (bytes' : List Byte) (expected' : Option Nat) :
    (((s.holding line keysw bytes expected).withKey keysw).setAwaitsHigh false line).setReceiver
      (.collect bytes' expected' true) line = s.holding line keysw bytes' expected' := by
  cases line <;> rfl

theorem State.holding_afterFrame :
    (s.holding line keysw bytes expected).afterFrame line keysw = s.afterFrame line keysw := by
  cases line <;> rfl

/-- In the middle of a frame every start bit is recognised: no character error came (R2). -/
theorem State.holding_recognises (hl : s.listening = true) (rested : Bool) :
    (s.holding line keysw bytes expected).recognises ⟨line, rested⟩ = true := by
  have hl' : (s.holding line keysw bytes expected).listening = true := State.holding_listening.trans hl
  simp only [State.listening, Bool.and_eq_true] at hl'
  simp only [State.recognises, hl'.1, State.holding_attentive, Bool.not_false, Bool.true_or, Bool.and_true]

/-! ### The characters one by one -/

theorem State.takeCharacters_cons {t : State} {rested : Bool} {c : Character}
    (h : exec (.character ⟨line, rested⟩ c.byte c.lead keysw) s = .next t) (cs : List Character) :
    s.takeCharacters line keysw rested (c :: cs) = t.takeCharacters line keysw rested cs := by
  simp only [State.takeCharacters, h]

/-- The lead character of a frame (R7, R12). -/
theorem State.takeCharacters_lead (hl : s.listening = true) {rested : Bool}
    (hr : s.recognises ⟨line, rested⟩ = true) (h : s.receiver line = .hunt ∨ s.receiver line = .discard)
    (b : Byte) (cs : List Character) : s.takeCharacters line keysw rested ({ byte := b, lead := true } :: cs)
      = (s.holding line keysw [b] none).takeCharacters line keysw rested cs :=
  State.takeCharacters_cons ((leadCharacterStartsAFrame s line b keysw rested hl hr).1 h) cs

/-- The Length character (R8). -/
theorem State.takeCharacters_length (hl : s.listening = true) (rested : Bool) (h : bytes.length = 3) {b : Byte}
    (hb : b.toNat ≤ 32) (cs : List Character) :
    (s.holding line keysw bytes expected).takeCharacters line keysw rested ({ byte := b, lead := false } :: cs)
      = (s.holding line keysw (bytes ++ [b]) (some (6 + b.toNat))).takeCharacters line keysw rested cs := by
  obtain ⟨-, -, hcollect⟩ := laterCharacterIsAppended (s.holding line keysw bytes expected) line b keysw rested
    (State.holding_listening.trans hl) (State.holding_recognises hl rested)
  have hnext := (hcollect _ _ _ State.holding_receiver).1 h hb
  rw [State.holding_next] at hnext
  exact State.takeCharacters_cons (c := ⟨b, false⟩) hnext cs

/-- A character that neither is the Length nor completes the frame (R8). -/
theorem State.takeCharacters_append (hl : s.listening = true) (rested : Bool) (h : bytes.length ≠ 3)
    (hmore : expected ≠ some (bytes.length + 1)) (b : Byte) (cs : List Character) :
    (s.holding line keysw bytes expected).takeCharacters line keysw rested ({ byte := b, lead := false } :: cs)
      = (s.holding line keysw (bytes ++ [b]) expected).takeCharacters line keysw rested cs := by
  obtain ⟨-, -, hcollect⟩ := laterCharacterIsAppended (s.holding line keysw bytes expected) line b keysw rested
    (State.holding_listening.trans hl) (State.holding_recognises hl rested)
  have hnext := (hcollect _ _ _ State.holding_receiver).2.2 h hmore
  rw [State.holding_next] at hnext
  exact State.takeCharacters_cons (c := ⟨b, false⟩) hnext cs

/-- The characters between the Length and the last (R8). -/
theorem State.takeCharacters_middle (hl : s.listening = true) (rested : Bool) (cs : List Character) {n : Nat} :
    ∀ (more bytes : List Byte), 4 ≤ bytes.length → bytes.length + more.length < n →
      (s.holding line keysw bytes (some n)).takeCharacters line keysw rested
          (more.map (fun b => { byte := b, lead := false }) ++ cs)
        = (s.holding line keysw (bytes ++ more) (some n)).takeCharacters line keysw rested cs
  | [], bytes, _, _ => by rw [List.append_nil]; rfl
  | b :: more, bytes, h4, hn => by
    have hmore : (some n : Option Nat) ≠ some (bytes.length + 1) := by
      rw [List.length_cons] at hn
      simp only [ne_eq, Option.some.injEq]
      omega
    rw [List.map_cons, List.cons_append, State.takeCharacters_append hl rested (by omega) hmore,
      State.takeCharacters_middle hl rested cs more (bytes ++ [b]) (by simp; omega) (by simp at hn ⊢; omega),
      List.append_assoc]
    rfl

end Holding

/-! ### A whole frame -/

/-- The characters of a frame: Address, Function, Sequence and Length, the payload, and the check (R4). -/
theorem Frame.characters_eq (f : Frame) :
    f.characters = { byte := f.addr, lead := true } :: { byte := f.functionByte, lead := false }
      :: { byte := f.seq, lead := false } :: { byte := BitVec.ofNat 8 f.payload.length, lead := false }
      :: ((f.payload ++ [highHalf f.check]).map (fun b => { byte := b, lead := false })
        ++ [{ byte := lowHalf f.check, lead := false }]) := by
  simp [Frame.characters, Frame.bytes, Frame.body]

/-- What a receiver holds before the last character of a frame. -/
theorem State.holding_completes {s : State} (hl : s.listening = true) (line : Line) (keysw : Bool) {f : Frame}
    (hpayload : f.payload.length ≤ 32) :
    (s.holding line keysw (f.body ++ [highHalf f.check]) (some (f.payload.length + 6))).Completes line f where
  listening := State.holding_listening.trans hl
  attentive := State.holding_attentive
  payload := hpayload
  partialFrame := ⟨true, State.holding_receiver⟩

/-- The characters of a frame, taken one after another, hand the frame on (R8, R11, R18). -/
theorem State.takeCharacters_frame {s : State} {line : Line} {rested : Bool} (hl : s.listening = true)
    (hr : s.recognises ⟨line, rested⟩ = true) (h : s.receiver line = .hunt ∨ s.receiver line = .discard)
    {f : Frame} (hpayload : f.payload.length ≤ 32) (keysw : Bool) :
    s.takeCharacters line keysw rested f.characters
      = .next ((s.afterFrame line keysw).handOn f.whole line) := by
  have hlength : (BitVec.ofNat 8 f.payload.length).toNat = f.payload.length := by
    rw [BitVec.toNat_ofNat]; omega
  have hlast := (State.holding_completes hl line keysw hpayload).exec_lastCharacter keysw rested
  rw [State.holding_afterFrame] at hlast
  rw [f.characters_eq, State.takeCharacters_lead hl hr h,
    State.takeCharacters_append hl rested (by simp) (by simp),
    State.takeCharacters_append hl rested (by simp) (by simp),
    State.takeCharacters_length hl rested (by simp) (hlength.trans_le hpayload), hlength, Nat.add_comm,
    State.takeCharacters_middle hl rested _ _ _ (by simp) (by simp; omega)]
  exact State.takeCharacters_cons (c := { byte := lowHalf f.check, lead := false }) hlast []

/-! ### The levels of a character (R1, R2) -/

/-- Eight levels, the least significant bit first, are the byte they came from. -/
theorem ofBoolListLE_levels (b : Byte) (data : List Bool)
    (h : data.take 8 = (List.range 8).map fun i => b.getLsbD i) :
    (BitVec.ofBoolListLE (data.take 8)).setWidth 8 = b := by
  apply BitVec.eq_of_getLsbD_eq
  intro i hi
  rw [BitVec.getLsbD_setWidth, BitVec.getLsbD_ofBoolListLE, h]
  simp [hi]

/-- Settles O18: the characters by the parts of the frame, and the levels bit by bit. -/
theorem sentFrameIsReceivedWhole : Obligations.SentFrameIsReceivedWhole := by
  refine ⟨fun s line f keysw rested hl hr hpayload h =>
    State.takeCharacters_frame hl hr h hpayload keysw, fun c => ⟨by simp [Character.bits], ?_, rfl⟩⟩
  simp only [Character.ofSamples, if_true]
  rw [ofBoolListLE_levels c.byte _ (by simp)]
  simp

end Sys2Proof.Machine
end

section
/-! PROOFS. The check differs wherever one byte alone differs (R5): it is linear, and neither a byte nor a register
content other than zero leaves a register of zero. -/

namespace Sys2Proof.Machine

/-- Without a data bit, a register content other than zero is not shifted out: the bit that leaves it comes back as
the polynomial, whose least significant bit no shift makes. -/
theorem crcBit_eq_zero {reg : Word} (h : crcBit reg false = 0#16) : reg = 0#16 := by
  unfold crcBit at h
  split at h
  · rename_i hmsb
    rw [BitVec.msb_eq_false_iff_two_mul_lt] at hmsb
    bv_omega
  · have hbit := congrArg (fun w : Word => w.getLsbD 0) h
    simp at hbit

/-- The register is determined by its content after a byte. -/
theorem crcByte_left_injective {a b : Word} {x : Byte} (h : crcByte a x = crcByte b x) : a = b := by
  have hxor : crcByte (a ^^^ b) (x ^^^ x) = 0#16 := by rw [crcByte_xor, h, BitVec.xor_self]
  rw [BitVec.xor_self] at hxor
  simp only [crcByte, List.foldl, BitVec.getLsbD_zero] at hxor
  iterate 8 replace hxor := crcBit_eq_zero hxor
  exact BitVec.xor_eq_zero_iff.1 hxor

/-- A byte is determined by what it makes of a register. -/
theorem crcByte_right_injective {a : Word} {x y : Byte} (h : crcByte a x = crcByte a y) : x = y := by
  have hzero : ∀ z : Byte, crcByte 0#16 z = 0#16 → z = 0#8 := by decide
  have hxor : crcByte (a ^^^ a) (x ^^^ y) = 0#16 := by rw [crcByte_xor, h, BitVec.xor_self]
  rw [BitVec.xor_self] at hxor
  exact BitVec.xor_eq_zero_iff.1 (hzero _ hxor)

/-- The register before a sequence of bytes is determined by its content after it. -/
theorem foldl_crcByte_injective (bytes : List Byte) : ∀ {a b : Word},
    bytes.foldl crcByte a = bytes.foldl crcByte b → a = b := by
  induction bytes with
  | nil => exact id
  | cons x bytes ih => exact fun h => crcByte_left_injective (ih h)

/-- Settles O19: what differs in one byte leaves different registers after it, and the bytes that follow keep them
apart. -/
theorem checkDetectsOneWrongByte : Obligations.CheckDetectsOneWrongByte := by
  intro front back x y hne h
  simp only [crc, List.foldl_append, List.foldl_cons] at h
  exact hne (crcByte_right_injective (foldl_crcByte_injective back h))

end Sys2Proof.Machine
end

section
/-! PROOFS. The transmitters and the restart: what UT and DT take and report, when the restart takes place, and the
time that passes on the lines (R1, R18 to R23, R78, R79, R93, R108 to R113, R185). -/

namespace Sys2Proof.Machine

/-! ### Time on the lines (R1, R18, R22) -/

/-- One character more of a frame in flight, up to its last (R18). -/
theorem InFlight.advance_eq (x : InFlight) : x.advance =
    { x with position := if x.position < x.frame.payload.length + 6 then x.position + 1 else x.position } := by
  unfold InFlight.advance
  rw [Frame.characters_length]
  split <;> rfl

/-- Settles O2: the tick is the restart or one character time, and the levels follow what each transmitter holds. -/
theorem emptyQueuePassesOneCharacterTime : Obligations.EmptyQueuePassesOneCharacterTime := by
  refine ⟨fun s hpending => ?tick, fun s => ⟨fun hut hcut => ?idle, fun c hut hcut => ?cut, fun hdt => ?idleDown,
    fun x hut => ?sending, fun d hdt => ?sendingDown⟩⟩
  case tick =>
    have hstep : step s = .next s.tick := by rw [step, hpending]
    rw [hstep]
    rcases s.tick_cases with ⟨hdue, ht⟩ | ⟨hdue, ht⟩ <;> rw [ht]
    · exact ⟨fun hnot => absurd hdue hnot, fun _ => rfl⟩
    · refine ⟨fun _ => ?_, fun hdue' => absurd hdue' hdue⟩
      simp only [State.sendCharacters, funext InFlight.advance_eq]
  case idle => rw [State.transmitLevels, hut, hcut]; rfl
  case cut =>
    rw [State.transmitLevels, hut, hcut]
    exact congrArg (_ ++ ·) List.drop_replicate
  case idleDown => rw [State.transmitLevels, hdt]; rfl
  case sending => rw [State.transmitLevels, hut]; rfl
  case sendingDown => rw [State.transmitLevels, hdt]; rfl

/-! ### DT (R20, R78, R79, R93) -/

theorem State.sendTracked_busy {s : State} {t : Tag} {r : Record} (h : s.tag t = .busy r) :
    s.sendTracked t = .next { s.setTag t (.busy { r with state := .sending }) with
      dt := some (DownFlight.start (r.downFrame t) (.tracked t)) } := by
  rw [State.sendTracked, h]

/-- Settles O43: by DT's state and the head of its queue. -/
theorem dtTakesTheHead : Obligations.DtTakesTheHead := by
  refine fun s => ⟨fun d hdt => ?sending, fun hdt hdq => ?empty, fun f rest hdt hdq => ?untracked,
    fun t rest r hdt hdq htag => ?tracked⟩
  case sending => simp only [exec, execDtTake, hdt]
  case empty => simp only [exec, execDtTake, hdt, hdq]
  case untracked => simp only [exec, execDtTake, hdt, hdq]; rfl
  case tracked =>
    simp only [exec, execDtTake, hdt, hdq]
    exact State.sendTracked_busy (s := { s with tt := { s.tt with dq := rest } }) htag

/-- Settles O44: by the tag that DT's current transmission names, and by that tag's state. -/
theorem dtReportsTheFrameSent : Obligations.DtReportsTheFrameSent := by
  refine fun s => ⟨fun hdt => ?idle, fun d hdt hcurrent => ?untracked, fun d t hdt hcurrent => ?tracked⟩
  case idle => simp only [exec, execDownlineFrameSent, hdt]
  case untracked => simp only [exec, execDownlineFrameSent, hdt, hcurrent]; rfl
  case tracked =>
    have hreport : ∀ x, s.tag t = x → exec .downlineFrameSent s
        = .next (State.setTag { s with dt := none } t x.reportedSent) := by
      rintro x rfl
      simp only [exec, execDownlineFrameSent, hdt, hcurrent]
      rfl
    refine ⟨fun r htag hsending => ?_, fun r htag ⟨reply, origin, hheld⟩ => ?_, fun captured htag => ?_⟩ <;>
      rw [hreport _ htag]
    · simp only [TagState.reportedSent, hsending, if_true]; rfl
    · simp only [TagState.reportedSent, hheld, reduceCtorEq, if_false]
      exact congrArg _ (State.setTag_self htag)
    · rfl

/-! ### UT's taking (R19, R91, R92, R108 to R110) -/

/-- What UT's taking makes of the part, before the arbiter fills the freed place: the head is in flight. -/
def State.utTaken (s : State) (f : Frame) (rest : List Frame) : State :=
  { s with ut := some (InFlight.start f), utCut := none, rt := { s.rt with uq := rest } }

section UtTake
variable {s : State}

theorem exec_utTake_empty (hut : s.ut = none) (huq : s.rt.uq = []) :
    exec .utTake s = .next s.settleRestart := by
  simp only [exec, execUtTake, hut, huq, settled]

theorem exec_utTake_head (hut : s.ut = none) {f : Frame} {rest : List Frame} (huq : s.rt.uq = f :: rest) :
    exec .utTake s = settled (s.utTaken f rest).arbitrate := by
  simp only [exec, execUtTake, hut, huq, State.utTaken]

theorem State.arbitrate_holder {m : Frame} (h : s.me.holder = some m) :
    s.arbitrate = .next ({ s with me := { s.me with holder := none } }.enqueueUp m) := by
  simp only [State.arbitrate, h]

theorem State.arbitrate_empty (h : s.me.holder = none) (hheld : s.rt.holdList = []) :
    s.arbitrate = .next s := by
  simp only [State.arbitrate, h, hheld]

theorem State.arbitrate_held (h : s.me.holder = none) {t : Tag} {tags : List Tag}
    (hheld : s.rt.holdList = t :: tags) {r : Record} (htag : s.tag t = .busy r) {reply : Frame} {o : Origin} (hstate : r.state = .held reply o) :
    s.arbitrate = .next (({ s with rt := { s.rt with holdList := tags } }.enqueueUp reply).endRecord t r o) := by
  simp only [State.arbitrate, h, hheld, State.moveHeld, htag, hstate]

/-- The end of a record leaves the Engine and UT as they were, and draws no free value. -/
theorem State.endRecord_upline (s : State) (t : Tag) (r : Record) (o : Origin) :
    (s.endRecord t r o).me = s.me ∧ (s.endRecord t r o).ut = s.ut ∧ (s.endRecord t r o).draws = s.draws := by
  rcases s.endRecord_cases t r o with ⟨-, h⟩ | ⟨-, -, -, h⟩ | ⟨-, -, h⟩ <;> rw [h] <;> exact ⟨rfl, rfl, rfl⟩

end UtTake

/-- Settles O46: by UT's state, the queue, and what waits for the freed place; then the restart, if it is due. -/
theorem utTakesTheHead : Obligations.UtTakesTheHead := by
  intro s settle
  have hsettle : ∀ t : State, t.me.state = s.me.state → t.draws = s.draws →
      settled (.next t) = .next (settle t) := by
    intro t hstate hdraws
    simp only [settled_next, hstate, settle]
    rcases t.restartCutsShort_cases with ⟨hut, h⟩ | ⟨x, hut, h⟩ <;> rw [h, hut]
    rw [hdraws]
  refine ⟨fun x hut => ?sending, fun hut huq => ?empty, fun f rest hut huq => ?head⟩
  case sending => simp only [exec, execUtTake, hut]
  case empty =>
    rw [exec_utTake_empty hut huq]
    exact hsettle s rfl rfl
  case head =>
    rw [exec_utTake_head hut huq]
    refine ⟨fun m hm => ?holder, fun hm hheld => ?none, fun t tags r reply origin hm hheld htag hstate => ?held⟩
    case holder =>
      rw [State.arbitrate_holder (s := s.utTaken f rest) hm]
      exact hsettle _ rfl rfl
    case none =>
      rw [State.arbitrate_empty (s := s.utTaken f rest) hm hheld]
      exact hsettle _ rfl rfl
    case held =>
      rw [State.arbitrate_held (s := s.utTaken f rest) hm hheld htag hstate, ← State.endRecord_eq_release]
      obtain ⟨hme, -, hdraws⟩ := State.endRecord_upline (State.enqueueUp { s.utTaken f rest with
        rt := { uq := rest, holdList := tags } } reply) t r origin
      exact hsettle _ (congrArg Engine.state hme) hdraws

/-! ### UT's report and the restart (R23, R113, R185) -/

theorem State.isRestartReply_iff (s : State) (f : Frame) :
    s.isRestartReply f = true ↔ s.me.state = .restartPending f := by
  unfold State.isRestartReply
  split
  · rename_i reply hstate
    rw [hstate, decide_eq_true_iff, EngineState.restartPending.injEq, eq_comm]
  · rename_i hnot
    exact iff_of_false nofun (hnot f)

theorem exec_uplineFrameSent_sending {s : State} {x : InFlight} (hut : s.ut = some x) :
    exec .uplineFrameSent s
      = .next (if s.me.state = .restartPending x.frame then s.restartReported else { s with ut := none }) := by
  simp only [exec, execUplineFrameSent, hut, s.isRestartReply_iff]

/-- UT's taking with a restart due: with the queue empty the restart alone, and otherwise the restart that cuts the
head short (R23). Whatever the arbiter does with the freed place, the restart sweeps. -/
theorem execUtTake_restartDue {s t : State} (hdue : s.me.state = .restartDue) (h : execUtTake s = .next t) :
    (s.rt.uq = [] → t = s.restart)
      ∧ ∀ f rest, s.rt.uq = f :: rest → t = { s.restart with
          utCut := some { frame := f, bits := Config.cutBits s.draws + 1 }, draws := s.draws + 1 } := by
  have hut : s.ut = none := by
    cases hut : s.ut with
    | none => rfl
    | some x =>
      rw [execUtTake, hut] at h
      cases h
  have hsettle : ∀ u : State, u.me.state = .restartDue → u.settleRestart = u.restartCutsShort :=
    fun u hu => if_pos hu
  refine ⟨fun huq => ?_, fun f rest huq => ?_⟩
  · rw [show execUtTake s = _ from exec_utTake_empty hut huq, hsettle s hdue] at h
    obtain rfl := Host.Outcome.next.inj h
    rw [State.restartCutsShort, hut]
  · rw [show execUtTake s = _ from exec_utTake_head hut huq] at h
    cases hu : (s.utTaken f rest).arbitrate with
    | fault r => rw [hu] at h; cases h
    | refused r => rw [hu] at h; cases h
    | next u =>
      have hswept : u.restart = s.restart ∧ u.me.state = .restartDue ∧ u.ut = some (InFlight.start f)
          ∧ u.draws = s.draws := by
        rcases State.arbitrate_next hu with ⟨m, -, rfl⟩ | ⟨-, -, rfl⟩
          | ⟨g, tags, r, reply, o, -, -, -, -, rfl⟩
        · exact ⟨rfl, hdue, rfl, rfl⟩
        · exact ⟨rfl, hdue, rfl, rfl⟩
        · obtain ⟨hme, hflight, hdraws⟩ := State.endRecord_upline (State.enqueueUp { s.utTaken f rest with
            rt := { uq := rest, holdList := tags } } reply) g r o
          exact ⟨State.endRecord_restart _ g r o, (congrArg Engine.state hme).trans hdue, hflight, hdraws⟩
      obtain ⟨hrestart, hstate, hflight, hdraws⟩ := hswept
      rw [hu] at h
      obtain rfl := Host.Outcome.next.inj h
      rw [hsettle u hstate, State.restartCutsShort, hflight, hrestart, hdraws]
      rfl

/-- Settles O47: by UT's state, by what the Engine waits for, and by what the sender offers next. -/
theorem utReportsTheFrameSent : Obligations.UtReportsTheFrameSent := by
  intro s swept
  refine ⟨fun hut => ?idle, fun x hut hstate => ?other, fun x hut hstate => ?restart, fun hdue hpending => ?tick,
    fun t hdue h => execUtTake_restartDue hdue h⟩
  case idle => simp only [exec, execUplineFrameSent, hut]
  case other => rw [exec_uplineFrameSent_sending hut, if_neg hstate]
  case restart =>
    rw [exec_uplineFrameSent_sending hut, if_pos hstate]
    rcases s.restartReported_cases with ⟨hnow, h⟩ | ⟨hnext, huq, h⟩ <;> rw [h]
    · exact ⟨fun _ => rfl, fun hnext huq => absurd hnow (not_or.2 ⟨not_not.2 hnext, huq⟩)⟩
    · exact ⟨fun hnow => absurd hnow (not_or.2 ⟨not_not.2 hnext, huq⟩), fun _ _ => rfl⟩
  case tick =>
    rw [(emptyQueuePassesOneCharacterTime.1 s hpending).2 hdue]
    rfl

end Sys2Proof.Machine
end

section
/-! PROOFS. Power and RESET_N: what each of their events makes of the part, and the new part just powered up (R3, R15,
R22, R96, R114, R119, R149, R161, R165, R186). -/

namespace Sys2Proof.Machine

/-- ALERT_N driven to the level that the part's power, RESET_N, mode and latch give it (R165). -/
theorem State.driveAlert_eq {s : State} {level : Bool} (h : s.alertLevel = level) :
    s.driveAlert = { s with pins := { s.pins with alert := level } } := by
  rw [← h]
  rfl

section Alert
variable {s : State}

theorem State.alertLevel_unpowered (h : s.pins.powered = false) : s.alertLevel = false := by
  rw [State.alertLevel, h, Bool.false_and]

/-- A powered part held in reset or in STARTING asserts ALERT_N. -/
theorem State.alertLevel_starting (h : s.pins.powered = true) (hmode : s.ts.mode = .starting) :
    s.alertLevel = true := by
  rw [State.alertLevel, h, hmode]
  simp [Mode.isRunning]

/-- With no erase in flight an interruption loses what is volatile, and nothing else (R149). -/
theorem State.interrupt_idle (h : s.ts.op.bind StoreOp.erasing = none) : s.interrupt = s.volatileReset := by
  rw [State.interrupt, State.eraseProgress_idle h]

end Alert

/-! ### The events where they can occur -/

section Occurs
variable {s : State}

/-- The part with power on and everything volatile lost (R161). -/
def State.poweredUp (s : State) : State := { s.volatileReset with pins := { s.pins with powered := true } }

theorem exec_powerOn_unpowered (h : s.pins.powered = false) (rate madr : BitVec 2) :
    exec (.powerOn rate madr) s =
      .next (if s.pins.resetN then s.poweredUp.enterStarting rate madr else s.poweredUp).driveAlert :=
  if_neg (by rw [h]; nofun)

theorem exec_powerFail_powered (h : s.pins.powered = true) :
    exec .powerFail s = .next (State.driveAlert { s.interrupt with pins := { s.pins with powered := false } }) :=
  if_pos h

theorem exec_resetNFall_powered (h : s.pins.resetN = true) (hp : s.pins.powered = true) :
    exec .resetNFall s = .next (State.driveAlert { s.interrupt with pins := { s.pins with resetN := false } }) := by
  rw [show exec .resetNFall s = _ from if_pos h, if_pos hp]

theorem exec_resetNFall_unpowered (h : s.pins.resetN = true) (hp : s.pins.powered = false) :
    exec .resetNFall s = .next (State.driveAlert { s with pins := { s.pins with resetN := false } }) := by
  rw [show exec .resetNFall s = _ from if_pos h, if_neg (by rw [hp]; nofun)]

theorem exec_resetNRelease_low (h : s.pins.resetN = false) (rate madr : BitVec 2) :
    exec (.resetNRelease rate madr) s = .next (if s.pins.powered then
      (State.volatileReset { s with pins := { s.pins with resetN := true } }).enterStarting rate madr
      else { s with pins := { s.pins with resetN := true } }).driveAlert :=
  if_neg (by rw [h]; nofun)

end Occurs

/-! ### The statements -/

/-- Settles O5: each event by whether it can occur, by power and by the level of RESET_N. -/
theorem powerAndResetEvents : Obligations.PowerAndResetEvents := by
  intro s rate madr held begun p
  refine ⟨fun hp => ?on, fun hp hr => ?onStarts, fun hp hr => ?onHeld, fun hp => ?off, fun hp herase => ?offFails,
    fun hr => ?low, fun hr hp herase => ?falls, fun hr hp => ?fallsUnpowered, fun hr => ?high,
    fun hr hp => ?rises, fun hr hp => ?risesUnpowered⟩
  case on => exact if_pos hp
  case off => exact if_neg (by rw [show s.pins.powered = false from hp]; nofun)
  case low => exact if_neg (by rw [show s.pins.resetN = false from hr]; nofun)
  case high => exact if_pos hr
  case onStarts =>
    rw [exec_powerOn_unpowered hp, if_pos hr, State.driveAlert_eq (level := true)]
    · rfl
    · exact State.alertLevel_starting rfl rfl
  case onHeld =>
    rw [exec_powerOn_unpowered hp, if_neg (by rw [hr]; nofun), State.driveAlert_eq (level := true)]
    · rfl
    · exact State.alertLevel_starting rfl rfl
  case offFails =>
    rw [exec_powerFail_powered hp, State.interrupt_idle herase, State.driveAlert_eq (level := false)]
    · rfl
    · exact State.alertLevel_unpowered rfl
  case falls =>
    rw [exec_resetNFall_powered hr hp, State.interrupt_idle herase, State.driveAlert_eq (level := true)]
    · rfl
    · exact State.alertLevel_starting hp rfl
  case fallsUnpowered =>
    rw [exec_resetNFall_unpowered hr hp, State.driveAlert_eq (level := false)]
    exact State.alertLevel_unpowered hp
  case rises =>
    rw [exec_resetNRelease_low hr, if_pos hp, State.driveAlert_eq (level := true)]
    · rfl
    · exact State.alertLevel_starting hp rfl
  case risesUnpowered =>
    rw [exec_resetNRelease_low hr, if_neg (by rw [hp]; nofun), State.driveAlert_eq (level := false)]
    exact State.alertLevel_unpowered hp

/-- Settles O4: every field read off the new part, which POWER_ON makes of the same part without power. -/
theorem resetIsANewPartPoweredUp : Obligations.ResetIsANewPartPoweredUp := by
  refine ⟨?fields, rfl⟩
  exact ⟨rfl, rfl, rfl, rfl, rfl, rfl, rfl, rfl, rfl, rfl, State.reset_tag, rfl, rfl, rfl, rfl, rfl, rfl, rfl, rfl,
    fun c => get_replicate _ _, rfl, rfl, rfl, rfl, rfl, rfl, rfl⟩

end Sys2Proof.Machine
end
